-- ==== Sys2Proof/Word.lean ====
section
/-! DEFINITION. The word types of the block: bytes, host words, the eight-byte buffer. -/

namespace Sys2Proof

/-- One byte, on the bus or in the data buffer. -/
abbrev Byte := BitVec 8

/-- A host register or a command word (R55, R120). -/
abbrev Word := BitVec 32

/-- The data buffer's shape: DATA[0..7] and LDATA[0..7] (R36, R37; size 8 by R10). -/
abbrev Buf := Vector Byte 8

end Sys2Proof
end

