-- ==== Sys2Proof/Syntax.lean ====
section
/-! DEFINITION. The block's operations as syntax: one constructor of Instr per row of spec/opcode_table.json. -/

namespace Sys2Proof

/-- The sixteen sensor registers of §3, in index order (30_encoding.md R124, 41_register_protocol.md R181). -/
inductive SensorReg where
  | status
  | measMode
  | algResultData
  | rawData
  | envData
  | thresholds
  | hwId
  | hwVersion
  | fwBootVersion
  | fwAppVersion
  | errorId
  | fwErase
  | fwProgram
  | fwVerify
  | appStart
  | swReset
  deriving DecidableEq, Repr, Inhabited

/-- The seven opcodes of 30_encoding.md R126. -/
inductive Op where
  | nop
  | wrcmd
  | wrreg
  | wrmbox
  | rdmbox
  | boot
  | classify
  deriving DecidableEq, Repr, Inhabited

/-- Every operation of the block. The first seven are command words a host writes to CMD (R126); the others are
steps of the block that no word encodes (R128). `reg` is the field REG, `len` the field LEN in bytes, `imm` the
field IMM (R121). -/
inductive Instr where
  /-- NOP, R191. -/
  | nop
  /-- WRCMD, R192. -/
  | wrcmd (reg : SensorReg) (len : Nat)
  /-- WRREG, R193. -/
  | wrreg (reg : SensorReg) (len : Nat)
  /-- WRMBOX, R194. -/
  | wrmbox (reg : SensorReg) (len : Nat)
  /-- RDMBOX, R195. -/
  | rdmbox (reg : SensorReg) (len : Nat)
  /-- BOOT, R231. -/
  | boot
  /-- CLASSIFY, R312. -/
  | classify (imm : BitVec 16)
  /-- BOOT_TX, R233: the boot transaction step. -/
  | bootTx
  /-- BOOT_T1_HWID, R234. -/
  | bootT1Hwid
  /-- BOOT_T2_STATUS, R235. -/
  | bootT2Status
  /-- BOOT_T3_FW_VERIFY, R236. -/
  | bootT3FwVerify
  /-- BOOT_T4_APP_START, R237. -/
  | bootT4AppStart
  /-- BOOT_T5_MEAS_MODE, R238. -/
  | bootT5MeasMode
  /-- BOOT_T6_ERR_ID, R239. -/
  | bootT6ErrId
  /-- BOOT_T7_MODE_ECHO, R240. -/
  | bootT7ModeEcho
  /-- BOOT_FAIL, R241. -/
  | bootFail
  /-- BOOT_DELAY, R242. -/
  | bootDelay
  /-- TICK, R243. -/
  | tick
  /-- CMD_STEP, R190. -/
  | cmdStep
  /-- EVT_CAPTURE, R271. -/
  | evtCapture
  /-- EVT_DELIVER, R272. -/
  | evtDeliver
  /-- LOOP_WAKE, R274. -/
  | loopWake
  /-- LOOP_CHECK, R275. -/
  | loopCheck
  /-- LOOP_REARM, R276. -/
  | loopRearm
  /-- RESET, R370. -/
  | reset
  deriving DecidableEq, Repr, Inhabited

end Sys2Proof
end

