-- ==== Sys2Proof/WellFormed.lean ====
section
/-! DEFINITION. Which terms of Instr are operations of the block: LEN fits its four-bit field (R121, R123). -/

namespace Sys2Proof

/-- LEN is an unsigned four-bit count, 0..15 (R123). Every other operand's type admits exactly the field's values. -/
def Instr.wf : Instr → Bool
  | .wrcmd _ len => decide (len < 16)
  | .wrreg _ len => decide (len < 16)
  | .wrmbox _ len => decide (len < 16)
  | .rdmbox _ len => decide (len < 16)
  | .nop => true
  | .boot => true
  | .classify _ => true
  | .bootTx => true
  | .bootT1Hwid => true
  | .bootT2Status => true
  | .bootT3FwVerify => true
  | .bootT4AppStart => true
  | .bootT5MeasMode => true
  | .bootT6ErrId => true
  | .bootT7ModeEcho => true
  | .bootFail => true
  | .bootDelay => true
  | .tick => true
  | .cmdStep => true
  | .evtCapture => true
  | .evtDeliver => true
  | .loopWake => true
  | .loopCheck => true
  | .loopRearm => true
  | .reset => true

/-- The operation's opcode, when it is a command a word encodes (R126); the internal steps have none (R128). -/
def Instr.op? : Instr → Option Op
  | .nop => some .nop
  | .wrcmd _ _ => some .wrcmd
  | .wrreg _ _ => some .wrreg
  | .wrmbox _ _ => some .wrmbox
  | .rdmbox _ _ => some .rdmbox
  | .boot => some .boot
  | .classify _ => some .classify
  | .bootTx => none
  | .bootT1Hwid => none
  | .bootT2Status => none
  | .bootT3FwVerify => none
  | .bootT4AppStart => none
  | .bootT5MeasMode => none
  | .bootT6ErrId => none
  | .bootT7ModeEcho => none
  | .bootFail => none
  | .bootDelay => none
  | .tick => none
  | .cmdStep => none
  | .evtCapture => none
  | .evtDeliver => none
  | .loopWake => none
  | .loopCheck => none
  | .loopRearm => none
  | .reset => none

/-- The operation is a command word (R126), not an internal step (R128). -/
def Instr.isCommand (i : Instr) : Bool := i.op?.isSome

end Sys2Proof
end

