-- ==== Sys2Proof/Decode.lean ====
section
/-! DEFINITION. The decoder of command words (30_encoding.md), total and rejecting by name, and the encoder. -/

namespace Sys2Proof

/-- Why a word is ILLEGAL (R127). -/
inductive Illegal where
  /-- OP is 7..15. -/
  | reservedOpcode
  /-- RSV is not 0. -/
  | reservedField
  /-- IMM is not 0 and OP is not CLASSIFY. -/
  | strayImmediate
  /-- LEN or REG is not 0 and OP is NOP, BOOT or CLASSIFY. -/
  | strayOperand
  deriving DecidableEq, Repr

/-- IMM = w[31:16] (R121, R122). -/
def fieldImm (w : Word) : BitVec 16 := w.extractLsb' 16 16
/-- OP = w[15:12] (R121). -/
def fieldOp (w : Word) : BitVec 4 := w.extractLsb' 12 4
/-- LEN = w[11:8] (R121, R123). -/
def fieldLen (w : Word) : BitVec 4 := w.extractLsb' 8 4
/-- RSV = w[7:4] (R121). -/
def fieldRsv (w : Word) : BitVec 4 := w.extractLsb' 4 4
/-- REG = w[3:0] (R121, R124). -/
def fieldReg (w : Word) : BitVec 4 := w.extractLsb' 0 4

/-- The opcode a value of OP names; 7..15 are reserved (R126). -/
def Op.ofCode? (c : BitVec 4) : Option Op :=
  match c.toNat with
  | 0 => some .nop
  | 1 => some .wrcmd
  | 2 => some .wrreg
  | 3 => some .wrmbox
  | 4 => some .rdmbox
  | 5 => some .boot
  | 6 => some .classify
  | _ => none

/-- OP's value for an opcode (R126). -/
def Op.code : Op → BitVec 4
  | .nop => 0
  | .wrcmd => 1
  | .wrreg => 2
  | .wrmbox => 3
  | .rdmbox => 4
  | .boot => 5
  | .classify => 6

/-- The register a value of REG names: all 16 name one (R124). -/
def SensorReg.ofCode (c : BitVec 4) : SensorReg :=
  match c.toNat with
  | 0 => .status
  | 1 => .measMode
  | 2 => .algResultData
  | 3 => .rawData
  | 4 => .envData
  | 5 => .thresholds
  | 6 => .hwId
  | 7 => .hwVersion
  | 8 => .fwBootVersion
  | 9 => .fwAppVersion
  | 10 => .errorId
  | 11 => .fwErase
  | 12 => .fwProgram
  | 13 => .fwVerify
  | 14 => .appStart
  | _ => .swReset

/-- REG's value for a register: its index in §3's enumeration (R124). -/
def SensorReg.code : SensorReg → BitVec 4
  | .status => 0
  | .measMode => 1
  | .algResultData => 2
  | .rawData => 3
  | .envData => 4
  | .thresholds => 5
  | .hwId => 6
  | .hwVersion => 7
  | .fwBootVersion => 8
  | .fwAppVersion => 9
  | .errorId => 10
  | .fwErase => 11
  | .fwProgram => 12
  | .fwVerify => 13
  | .appStart => 14
  | .swReset => 15

/-- The instruction a command word encodes, or the reason it is ILLEGAL (R126, R127). -/
def decode (w : Word) : Except Illegal Instr :=
  match Op.ofCode? (fieldOp w) with
  | none => .error .reservedOpcode
  | some op =>
    if fieldRsv w ≠ 0 then .error .reservedField
    else if fieldImm w ≠ 0 ∧ op ≠ .classify then .error .strayImmediate
    else if (fieldLen w ≠ 0 ∨ fieldReg w ≠ 0) ∧ (op = .nop ∨ op = .boot ∨ op = .classify) then .error .strayOperand
    else match op with
      | .nop => .ok .nop
      | .wrcmd => .ok (.wrcmd (SensorReg.ofCode (fieldReg w)) (fieldLen w).toNat)
      | .wrreg => .ok (.wrreg (SensorReg.ofCode (fieldReg w)) (fieldLen w).toNat)
      | .wrmbox => .ok (.wrmbox (SensorReg.ofCode (fieldReg w)) (fieldLen w).toNat)
      | .rdmbox => .ok (.rdmbox (SensorReg.ofCode (fieldReg w)) (fieldLen w).toNat)
      | .boot => .ok .boot
      | .classify => .ok (.classify (fieldImm w))

/-- The command word with these fields and RSV = 0 (R121). -/
def assemble (imm : BitVec 16) (op : Op) (len : Nat) (reg : BitVec 4) : Word :=
  imm ++ op.code ++ BitVec.ofNat 4 len ++ 0#4 ++ reg

/-- The word of a command (R126, R129); an internal step has none (R128). -/
def encode : Instr → Option Word
  | .nop => some (assemble 0 .nop 0 0)
  | .wrcmd r len => some (assemble 0 .wrcmd len r.code)
  | .wrreg r len => some (assemble 0 .wrreg len r.code)
  | .wrmbox r len => some (assemble 0 .wrmbox len r.code)
  | .rdmbox r len => some (assemble 0 .rdmbox len r.code)
  | .boot => some (assemble 0 .boot 0 0)
  | .classify imm => some (assemble imm .classify 0 0)
  | .bootTx => none
  | .bootT1Hwid => none
  | .bootT2Status => none
  | .bootT3FwVerify => none
  | .bootT4AppStart => none
  | .bootT5MeasMode => none
  | .bootT6ErrId => none
  | .bootT7ModeEcho => none
  | .bootFail => none
  | .bootDelay => none
  | .tick => none
  | .cmdStep => none
  | .evtCapture => none
  | .evtDeliver => none
  | .loopWake => none
  | .loopCheck => none
  | .loopRearm => none
  | .reset => none

/-- The command word whose low `nbits` bits are those of `w` and whose other bits are 0 (log 18). -/
def tableWord (nbits w : Nat) : Word := BitVec.ofNat 32 (w % 2 ^ nbits)

/-- What the decoder reads from a word given with the opcode table's bit numbering. -/
def decodeTableWord (nbits w : Nat) : Option Instr :=
  match decode (tableWord nbits w) with
  | .ok i => some i
  | .error _ => none

end Sys2Proof
end

