-- ==== Sys2Proof/Config.lean ====
section
/-! DEFINITION. The block's parameters (00_scope.md R10) as plain data, the types of its inputs, and the free values. -/

namespace Sys2Proof

/-- A sensor register's direction (R181): read-only, write-only, read-write, or command (write-only, no payload). -/
inductive Dir where
  | r
  | w
  | rw
  | c
  deriving DecidableEq, Repr, Inhabited

/-- The parameters of R10 that an implementation or a platform fixes. A machine carries its own in its state and no
step changes them, so a statement about every state is a statement about every choice of parameters (log 5). -/
structure Config where
  /-- DEV_ADDR, the sensor's 7-bit bus address (OPEN). -/
  devAddr : BitVec 7
  /-- REG_ADDR[0..15] (OPEN). -/
  regAddr : Vector Byte 16
  /-- REG_WIDTH[0..15], in bytes (partly source, rest OPEN). -/
  regWidth : Vector Nat 16
  /-- REG_DIR[0..15] (partly source, rest OPEN). -/
  regDir : Vector Dir 16
  /-- MEAS_MODE_VALUE, the mode byte T5 writes. -/
  measModeValue : Byte
  /-- D_HWID, ms after T1. -/
  dHwid : Nat
  /-- D_STATUS, ms after T2. -/
  dStatus : Nat
  /-- D_VERIFY, ms after T3. -/
  dVerify : Nat
  /-- D_APPSTART, ms after T4. -/
  dAppstart : Nat
  /-- D_MODE, ms after T5. -/
  dMode : Nat
  /-- D_ERRID, ms after T6. -/
  dErrid : Nat
  /-- HOST_BASE, the platform address of the register window (OPEN). -/
  hostBase : Nat
  /-- T_BUS_TIMEOUT (OPEN, no value; no rule of the model reads it, log 15). -/
  tBusTimeout : Option Nat
  /-- F_SCL in Hz (OPEN, no value; at most 400 000; timing only, log 15). -/
  fScl : Option Nat
  /-- T_POWERON in ms (OPEN host duty, no value; the block does not check it, log 15). -/
  tPoweron : Option Nat
  deriving DecidableEq, Repr, Inhabited

/-- The defaults of R10, R181 and D9, D10, D14, D15, D25. PRESUMED where the spec marks them general knowledge
(log 5); HOST_BASE 0 is a DESIGN CHOICE (log 6). The widths of FW_ERASE and FW_PROGRAM are not used
(R181, log 22). -/
def Config.default : Config where
  devAddr := 0x5B
  regAddr := #v[0x00, 0x01, 0x02, 0x03, 0x05, 0x10, 0x20, 0x21, 0x23, 0x24, 0xE0, 0xF1, 0xF2, 0xF3, 0xF4, 0xFF]
  regWidth := #v[1, 1, 2, 2, 4, 4, 1, 1, 2, 2, 1, 0, 0, 0, 0, 4]
  regDir := #v[.r, .rw, .r, .r, .w, .w, .r, .r, .r, .r, .r, .w, .w, .c, .c, .w]
  measModeValue := 0x18
  dHwid := 10
  dStatus := 10
  dVerify := 100
  dAppstart := 1000
  dMode := 10
  dErrid := 10
  hostBase := 0
  tBusTimeout := none
  fScl := none
  tPoweron := none

/-- The constraint on the parameters stated under R10's table and the table's range 10..1000 of the delays, whose upper
end D_APPSTART, "at least 1000" (R232), does not have here; the widths and directions the source gives (R181); and R188's
"REG_WIDTH being at least 1 for W and RW registers", FW_ERASE and FW_PROGRAM, whose widths are not used, excepted
(log 23). -/
def Config.wf (c : Config) : Bool :=
  c.regWidth.toList.all (fun n => decide (n ≤ 8))
    && decide (10 ≤ c.dHwid) && decide (10 ≤ c.dStatus) && decide (100 ≤ c.dVerify)
    && decide (1000 ≤ c.dAppstart) && decide (10 ≤ c.dMode) && decide (10 ≤ c.dErrid)
    && decide (c.dHwid ≤ 1000) && decide (c.dStatus ≤ 1000) && decide (c.dVerify ≤ 1000)
    && decide (c.dMode ≤ 1000) && decide (c.dErrid ≤ 1000)
    && decide ((c.measModeValue.extractLsb' 4 3).toNat ≤ 4)
    && decide (c.regWidth[1] = 1) && decide (c.regDir[1] = .rw)
    && decide (c.regWidth[2] = 2) && decide (c.regDir[2] = .r)
    && decide (c.regWidth[5] = 4)
    && decide (c.regWidth[10] = 1) && decide (c.regDir[10] = .r)
    && decide (c.regWidth[13] = 0) && decide (c.regDir[13] = .c)
    && decide (c.regWidth[14] = 0) && decide (c.regDir[14] = .c)
    && [0, 1, 2, 3, 4, 5, 6, 7, 8, 9, 10, 13, 14, 15].all (fun (k : Fin 16) =>
        decide (c.regDir[k] = .w ∨ c.regDir[k] = .rw → 1 ≤ c.regWidth[k]))
    && (match c.fScl with
        | none => true
        | some f => decide (f ≤ 400000))

/-- One answer of the Bus oracle (R14, R154): FAIL, or OK. An OK answer carries eight bytes, of which a
write-then-read of `m` bytes delivers the first `m` and a write none (log 2). -/
inductive BusAnswer where
  | ok (b : Buf)
  | fail
  deriving DecidableEq, Repr, Inhabited

/-- One turn of an agent (R30), in the order the interleaving takes them. Host addresses are platform addresses and
widths are in bits; `rst` carries the level RST is driven to. -/
inductive Turn where
  /-- Host: `MemRead` of `width` bits at `addr` (R13). -/
  | hostRead (addr width : Nat)
  /-- Host: `MemWrite` of `width` bits at `addr` (R13). -/
  | hostWrite (addr width : Nat) (v : Word)
  /-- Sequencer: its enabled step, if any. -/
  | sequencer
  /-- EventCapture: an EVT pulse (R271). -/
  | evt
  /-- EventCapture: the delivery step (R272). -/
  | deliver
  /-- Tick: a TICK_MS pulse (R243). -/
  | tick
  /-- The RST input is driven to this level (R370). -/
  | rst (level : Bool)
  deriving DecidableEq, Repr, Inhabited

/-- FREE VALUE (log 1): which agent takes the n-th turn where the agenda settles none. Nothing constrains it:
every interleaving is admitted (R30, 93 I4). -/
opaque Config.freeTurn : Nat → Turn

/-- FREE VALUE (log 2): the Bus oracle's answer to the n-th transaction where the queue settles none. Nothing
constrains it: any outcome and any bytes are possible (R155, 93 I1). -/
opaque Config.freeAnswer : Nat → BusAnswer

end Sys2Proof
end

