-- ==== Sys2Proof/Machine/State.lean ====
section
/-! DEFINITION. The block's state (10_state.md), its reset value (70_reset_and_hazards.md R371), and why a step stops. -/

namespace Sys2Proof.Machine

/-- STATE (R32, D48). The codes 5 to 15 never occur and have no constructor (log 21). -/
inductive Phase where
  | idle
  | boot
  | failed
  | armed
  | service
  deriving DecidableEq, Repr, Inhabited

/-- SSTEP (R34): the next read-loop step while servicing. -/
inductive ServiceStep where
  | check
  | rearm
  deriving DecidableEq, Repr, Inhabited

/-- ERR (60_exceptions.md R331). The code 7 is never produced and has no constructor (log 21). -/
inductive Err where
  | ok
  | busFail
  | illegal
  | badReg
  | badLen
  | badValue
  | state
  deriving DecidableEq, Repr, Inhabited

/-- LEVEL and CRES (R46, R48): an AirQualityLevel, or NONE. -/
inductive Level where
  | good
  | warning
  | alert
  | none
  deriving DecidableEq, Repr, Inhabited

/-- LCMD (R36): the latched command of a running bus command. -/
structure LatchedCommand where
  op : Op
  reg : SensorReg
  len : Nat
  deriving DecidableEq, Repr, Inhabited

/-- The kind of a transaction in the history (R151 to R153): W writes, WR writes then reads. -/
inductive TxKind where
  | w
  | wr
  deriving DecidableEq, Repr, Inhabited

/-- The outcome of a transaction in the history (R14): OK with the bytes read, or FAIL. -/
inductive TxOutcome where
  | ok (bytes : List Byte)
  | fail
  deriving DecidableEq, Repr, Inhabited

/-- An event of the history (R50): `Tx(kind, a, w, m, outcome)` (R14) or `SetLevel(l)` (R16). -/
inductive Event where
  | tx (kind : TxKind) (address : BitVec 7) (sent : List Byte) (readCount : Nat) (outcome : TxOutcome)
  | setLevel (l : Level)
  deriving DecidableEq, Repr, Inhabited

/-- Everything the spec gives the block, its ports that hold a value between steps, and the environment. -/
structure State where
  /-- STATE, R32. -/
  phase : Phase
  /-- BSTEP, R33. -/
  bstep : BitVec 4
  /-- SSTEP, R34. -/
  sstep : ServiceStep
  /-- BUSY, R35. -/
  busy : Bool
  /-- LCMD, R36. -/
  lcmd : LatchedCommand
  /-- LDATA[0..7], R36. -/
  ldata : Buf
  /-- DATA[0..7], R37. -/
  data : Buf
  /-- ERR, R38. -/
  err : Err
  /-- DRDY, R39. -/
  drdy : Bool
  /-- PEND, R40. -/
  pend : Bool
  /-- IE, R41. -/
  ie : Bool
  /-- BOOTED, R42. -/
  booted : Bool
  /-- BFSTEP, R43. -/
  bfstep : BitVec 3
  /-- MM, R44. -/
  mm : Bool
  /-- VALUE, R45. -/
  value : BitVec 16
  /-- LEVEL, R46; it drives the LEVEL port. -/
  level : Level
  /-- HWID, R47. -/
  hwid : Byte
  /-- DSTAT, R47. -/
  dstat : Byte
  /-- ERRID, R47. -/
  errid : Byte
  /-- MODE, R47. -/
  mode : Byte
  /-- CRES, R48. -/
  cres : Level
  /-- DCNT, R49, a count (log 10). -/
  dcnt : Nat
  /-- The event history, R50, oldest first. -/
  hist : List Event
  /-- LEVEL_STB, R31: high after the step that emitted (log 9). -/
  levelStb : Bool
  /-- The level of the RST input, R31, R370 (log 7). -/
  rst : Bool
  /-- The word the last step returned to the host, if it was a read (R13, log 8). -/
  hostOut : Option Word
  /-- The parameters, R10; no step changes them (log 5). -/
  cfg : Config
  /-- The model's own: the turns already settled, next first (log 1). -/
  agenda : List Turn
  /-- The model's own: the Bus oracle's answers already settled, next first (log 2). -/
  busQueue : List BusAnswer
  /-- The model's own: how many turns were taken; indexes the free turn (log 1). -/
  turnIdx : Nat
  /-- The model's own: how many transactions ran; indexes the free answer (log 2). -/
  txIdx : Nat
  deriving DecidableEq, Repr, Inhabited

/-- No fault state exists in the block (R339 (b), 93 I25): there is no reason for one (log 19). -/
inductive Fault where
  deriving DecidableEq, Repr

/-- Why the model gives a step no meaning. -/
inductive Refusal where
  /-- Raised by an arm of exec that has no meaning yet. Safe: the run stops. No arm raises it. -/
  | notModelled (mnemonic : String)
  /-- Raised by a host access inside the window that is not 32 bits wide or not aligned to 4 bytes (R82, 93 I7).
  Safe: the run stops where the spec refuses it. -/
  | hostAccess
  deriving DecidableEq, Repr

/-- The block right after reset (R371), its parameters at their defaults (R10), nothing settled by the
environment (log 17). -/
def State.reset : State where
  phase := .idle
  bstep := 0
  sstep := .check
  busy := false
  lcmd := ⟨.nop, .status, 0⟩
  ldata := Vector.replicate 8 0
  data := Vector.replicate 8 0
  err := .ok
  drdy := false
  pend := false
  ie := false
  booted := false
  bfstep := 0
  mm := false
  value := 0
  level := .none
  hwid := 0
  dstat := 0
  errid := 0
  mode := 0
  cres := .none
  dcnt := 0
  hist := []
  levelStb := false
  rst := false
  hostOut := Option.none
  cfg := Config.default
  agenda := []
  busQueue := []
  turnIdx := 0
  txIdx := 0

end Sys2Proof.Machine
end

