-- ==== Sys2Proof/Machine/Operands.lean ====
section
/-! DEFINITION. Operand forms: sensor register lookups, the MEAS_MODE byte, payloads, byte order, buffer lanes, and the
host window's addresses. -/

namespace Sys2Proof.Machine

/-- A register's index in the tables REG_ADDR, REG_WIDTH and REG_DIR (R124, R181). -/
def regIndex : SensorReg → Fin 16
  | .status => 0
  | .measMode => 1
  | .algResultData => 2
  | .rawData => 3
  | .envData => 4
  | .thresholds => 5
  | .hwId => 6
  | .hwVersion => 7
  | .fwBootVersion => 8
  | .fwAppVersion => 9
  | .errorId => 10
  | .fwErase => 11
  | .fwProgram => 12
  | .fwVerify => 13
  | .appStart => 14
  | .swReset => 15

/-- REG_ADDR[r] (R181). -/
def regAddr (c : Config) (r : SensorReg) : Byte := c.regAddr[regIndex r]
/-- REG_WIDTH[r] (R181). -/
def regWidth (c : Config) (r : SensorReg) : Nat := c.regWidth[regIndex r]
/-- REG_DIR[r] (R181). -/
def regDir (c : Config) (r : SensorReg) : Dir := c.regDir[regIndex r]

/-- WRREG and WRMBOX need a direction W or RW (R187). -/
def dirWrites : Dir → Bool
  | .w => true
  | .rw => true
  | .r => false
  | .c => false

/-- RDMBOX needs a direction R or RW (R187). -/
def dirReads : Dir → Bool
  | .r => true
  | .rw => true
  | .w => false
  | .c => false

/-- ALG_LEN, the bytes a runtime read takes (R10). -/
def algLen : Nat := 2

/-- The drive modes of R183. -/
inductive DriveMode where
  | idle
  | every1s
  | every10s
  | every60s
  | raw250ms
  deriving DecidableEq, Repr

/-- A drive mode's code (R183). -/
def driveCode : DriveMode → BitVec 3
  | .idle => 0
  | .every1s => 1
  | .every10s => 2
  | .every60s => 3
  | .raw250ms => 4

/-- DRIVE_MODE, bits 6:4 of a MEAS_MODE byte (R182). -/
def driveField (b : Byte) : BitVec 3 := b.extractLsb' 4 3

/-- The MEAS_MODE byte with this drive mode, data-ready interrupt enable (bit 3) and threshold interrupt enable
(bit 2), the bits the source does not name at 0 (R182). -/
def measModeByte (d : DriveMode) (interrupt thresh : Bool) : Byte :=
  0#1 ++ driveCode d ++ BitVec.ofBool interrupt ++ BitVec.ofBool thresh ++ 0#2

/-- A payload byte whose drive field is not a drive mode (R183, R189). -/
def notDriveMode (b : Byte) : Bool := decide (4 < (driveField b).toNat)

/-- The first `n` bytes of a buffer in wire order (R85). -/
def firstBytes (n : Nat) (b : Buf) : List Byte := b.toList.take n

/-- DATA after a read of `n` bytes: the bytes read in 0..n-1, the old bytes above (R190, R195). -/
def mergeBytes (n : Nat) (new old : Buf) : Buf := Vector.ofFn fun i => if i.val < n then new[i] else old[i]

/-- `be16(b0, b1)`: the first byte received is the high byte (R16, R85). -/
def be16 (b0 b1 : Byte) : BitVec 16 := b0 ++ b1

/-- DATA0: DATA[0] in bits [7:0] to DATA[3] in bits [31:24] (R58, R86). -/
def data0Word (b : Buf) : Word := b[3] ++ b[2] ++ b[1] ++ b[0]
/-- DATA1: DATA[4] in bits [7:0] to DATA[7] in bits [31:24] (R59, R86). -/
def data1Word (b : Buf) : Word := b[7] ++ b[6] ++ b[5] ++ b[4]

/-- Byte lane `k` of a host word (R86). -/
def lane (v : Word) (k : Nat) : Byte := v.extractLsb' (8 * k) 8

/-- DATA after a write of DATA0: bytes 0..3 from the lanes (R58, R84). -/
def setData0 (v : Word) (b : Buf) : Buf := #v[lane v 0, lane v 1, lane v 2, lane v 3, b[4], b[5], b[6], b[7]]
/-- DATA after a write of DATA1: bytes 4..7 from the lanes (R59, R84). -/
def setData1 (v : Word) (b : Buf) : Buf := #v[b[0], b[1], b[2], b[3], lane v 0, lane v 1, lane v 2, lane v 3]

/-- The registers of the host window (R55). -/
inductive HostReg where
  | cmd
  | status
  | data0
  | data1
  | result
  | diag
  | class_
  | reserved
  deriving DecidableEq, Repr

/-- A host register's offset (R55). -/
def hostRegOffset : HostReg → Nat
  | .cmd => 0x00
  | .status => 0x04
  | .data0 => 0x08
  | .data1 => 0x0C
  | .result => 0x10
  | .diag => 0x14
  | .class_ => 0x18
  | .reserved => 0x1C

/-- The register at an aligned offset below 0x20: offset bits [4:2] select it (R81). -/
def hostRegAt (off : Nat) : HostReg :=
  match off / 4 with
  | 0 => .cmd
  | 1 => .status
  | 2 => .data0
  | 3 => .data1
  | 4 => .result
  | 5 => .diag
  | 6 => .class_
  | _ => .reserved

/-- What a host access reaches. -/
inductive HostTarget where
  /-- An address outside the window: the access does not reach the block (R81). -/
  | outside
  /-- Inside the window, but not 32 bits wide or not aligned (R82). -/
  | refused
  /-- A register of the window. -/
  | reg (r : HostReg)
  deriving DecidableEq, Repr

/-- What an access of `width` bits at platform address `addr` reaches (R55, R81, R82). DESIGN CHOICE (log 26): the
address the access begins at alone says whether it is inside the window, so one that begins below HOST_BASE and runs into
the window (64 bits at HOST_BASE - 4, 32 bits at HOST_BASE - 2) is outside; the spec does not say. -/
def hostTarget (c : Config) (addr width : Nat) : HostTarget :=
  if addr < c.hostBase ∨ c.hostBase + 32 ≤ addr then .outside
  else if width ≠ 32 ∨ (addr - c.hostBase) % 4 ≠ 0 then .refused
  else .reg (hostRegAt (addr - c.hostBase))

end Sys2Proof.Machine
end

