-- ==== Sys2Proof/Machine/Flags.lean ====
section
/-! DEFINITION. Flag computations: the acceptance checks that set ERR, the classifier's levels, and the packing of the
flags into the host registers. -/

namespace Sys2Proof.Machine

/-- TH_WARN (R10, R311). -/
def thWarn : Nat := 900
/-- TH_ALERT (R10, R311). -/
def thAlert : Nat := 1200

/-- `classify(v)`, unsigned and total (R311). -/
def classify (v : BitVec 16) : Level :=
  if thAlert < v.toNat then .alert else if thWarn < v.toNat then .warning else .good

/-- STATE's code (R32). -/
def phaseCode : Phase → BitVec 4
  | .idle => 0
  | .boot => 1
  | .failed => 2
  | .armed => 3
  | .service => 4

/-- ERR's code (R331). -/
def errCode : Err → BitVec 3
  | .ok => 0
  | .busFail => 1
  | .illegal => 2
  | .badReg => 3
  | .badLen => 4
  | .badValue => 5
  | .state => 6

/-- LEVEL's and CRES's code (R46, R48). -/
def levelCode : Level → BitVec 2
  | .good => 0
  | .warning => 1
  | .alert => 2
  | .none => 3

/-- STATUS as the host reads it (R57). -/
def statusWord (s : State) : Word :=
  0#13 ++ s.bfstep ++ 0#1 ++ errCode s.err ++ 0#2 ++ BitVec.ofBool s.mm ++ BitVec.ofBool s.ie ++
    BitVec.ofBool s.pend ++ BitVec.ofBool s.drdy ++ BitVec.ofBool s.booted ++ BitVec.ofBool s.busy ++ phaseCode s.phase

/-- RESULT as the host reads it (R60). -/
def resultWord (s : State) : Word := 0#14 ++ levelCode s.level ++ s.value

/-- DIAG as the host reads it (R61). -/
def diagWord (s : State) : Word := s.mode ++ s.errid ++ s.dstat ++ s.hwid

/-- CLASS as the host reads it (R62). -/
def classWord (s : State) : Word := 0#30 ++ levelCode s.cres

/-- A host register's value (R56 to R63, R83). -/
def hostRegValue (s : State) : HostReg → Word
  | .cmd => 0
  | .status => statusWord s
  | .data0 => data0Word s.data
  | .data1 => data1Word s.data
  | .result => resultWord s
  | .diag => diagWord s
  | .class_ => classWord s
  | .reserved => 0

/-- The opcodes 1 to 4, the host bus commands. -/
def isBusOp : Op → Bool
  | .wrcmd => true
  | .wrreg => true
  | .wrmbox => true
  | .rdmbox => true
  | .nop => false
  | .boot => false
  | .classify => false

/-- STATE is IDLE or FAILED: the host may use the bus (R186). -/
def hostOwnsBus (s : State) : Bool := decide (s.phase = .idle ∨ s.phase = .failed)

/-- Check 2 passes: bus commands and BOOT need STATE IDLE or FAILED (R186). -/
def stateAllows (op : Op) (s : State) : Bool :=
  match op with
  | .nop => true
  | .classify => true
  | .wrcmd => hostOwnsBus s
  | .wrreg => hostOwnsBus s
  | .wrmbox => hostOwnsBus s
  | .rdmbox => hostOwnsBus s
  | .boot => hostOwnsBus s

/-- The register's direction allows the operation (R187). -/
def dirAllows (op : Op) (d : Dir) : Bool :=
  match op with
  | .wrcmd => decide (d = .c)
  | .wrreg => dirWrites d
  | .wrmbox => dirWrites d
  | .rdmbox => dirReads d
  | .nop => true
  | .boot => true
  | .classify => true

/-- Check 3 passes: the register is not FW_ERASE or FW_PROGRAM and its direction allows the operation (R187). -/
def regAllows (op : Op) (r : SensorReg) (s : State) : Bool :=
  !isBusOp op || (decide (r ≠ .fwErase ∧ r ≠ .fwProgram) && dirAllows op (regDir s.cfg r))

/-- Check 4 passes: LEN fits the register's width (R188). -/
def lenAllows (op : Op) (r : SensorReg) (len : Nat) (s : State) : Bool :=
  match op with
  | .wrcmd => decide (len = 0)
  | .wrreg => decide (len = 1 ∧ regWidth s.cfg r = 1)
  | .wrmbox => decide (len = regWidth s.cfg r)
  | .rdmbox => decide (0 < len ∧ len ≤ regWidth s.cfg r)
  | .nop => true
  | .boot => true
  | .classify => true

/-- Check 5 passes: a MEAS_MODE payload names a drive mode; DATA is read at the CMD write (R189). -/
def valueAllows (op : Op) (r : SensorReg) (s : State) : Bool :=
  match op with
  | .wrreg => !(decide (r = .measMode) && notDriveMode s.data[0])
  | .wrmbox => !(decide (r = .measMode) && notDriveMode s.data[0])
  | .nop => true
  | .wrcmd => true
  | .rdmbox => true
  | .boot => true
  | .classify => true

/-- The checks after ILLEGAL, in the order STATE, BAD_REG, BAD_LEN, BAD_VALUE; the first that fails is reported
(R184, R332). Check 1 is the decoder's. -/
def acceptance (op : Op) (r : SensorReg) (len : Nat) (s : State) : Err :=
  if !stateAllows op s then .state
  else if !regAllows op r s then .badReg
  else if !lenAllows op r len s then .badLen
  else if !valueAllows op r s then .badValue
  else .ok

end Sys2Proof.Machine
end

