-- ==== Sys2Proof/Machine/Ops.lean ====
section
/-! DEFINITION. The shared operations over the state: bus transactions, the event history, errors, command submission,
boot progress and failure, host register accesses, reset. The block has no exception to take and none to return from
(60_exceptions.md R330); `raise` (R15) and `bootFailure` (R241) are how it records an error. -/

namespace Sys2Proof.Machine

/-- The Bus oracle's answer to the next transaction (R155, log 2). -/
def State.nextAnswer (s : State) : BusAnswer :=
  match s.busQueue with
  | a :: _ => a
  | [] => Config.freeAnswer s.txIdx

/-- The outcome the history records for an answer to a transaction that reads `m` bytes (R14). -/
def txOutcome (m : Nat) : BusAnswer → TxOutcome
  | .ok b => .ok (firstBytes m b)
  | .fail => .fail

/-- The event a transaction to DEV_ADDR records (R14, R150). -/
def State.txEvent (s : State) (kind : TxKind) (sent : List Byte) (m : Nat) : Event :=
  .tx kind s.cfg.devAddr sent m (txOutcome m s.nextAnswer)

/-- The state after one transaction: it is recorded and the oracle moves on (R14, R156). -/
def State.afterTx (s : State) (kind : TxKind) (sent : List Byte) (m : Nat) : State :=
  { s with hist := s.hist ++ [s.txEvent kind sent m], busQueue := s.busQueue.tail, txIdx := s.txIdx + 1 }

/-- TxWriteOnly(r): the register id alone (R151). -/
def State.txWriteOnly (s : State) (r : SensorReg) : BusAnswer × State :=
  (s.nextAnswer, s.afterTx .w [regAddr s.cfg r] 0)

/-- TxWriteWrite(r, p): the register id, then the payload, in one transaction (R152). -/
def State.txWriteWrite (s : State) (r : SensorReg) (p : List Byte) : BusAnswer × State :=
  (s.nextAnswer, s.afterTx .w (regAddr s.cfg r :: p) 0)

/-- TxWriteRead(r, m): the register id, then `m` bytes read, in one transaction (R153). -/
def State.txWriteRead (s : State) (r : SensorReg) (m : Nat) : BusAnswer × State :=
  (s.nextAnswer, s.afterTx .wr [regAddr s.cfg r] m)

/-- `Emit(setLevel(l))`: the LEVEL output, its strobe and the history (R16). -/
def State.emit (s : State) (l : Level) : State :=
  { s with level := l, levelStb := true, hist := s.hist ++ [.setLevel l] }

/-- `raise CmdError(e)`: ERR and nothing else (R15). -/
def State.raise (s : State) (e : Err) : State := { s with err := e }

/-- The acceptance of a bus command: it and its payload are latched (R184). -/
def State.acceptBus (s : State) (op : Op) (r : SensorReg) (len : Nat) : State :=
  { s with lcmd := ⟨op, r, len⟩, ldata := s.data, err := .ok, busy := true }

/-- The acceptance of BOOT (R231). -/
def State.acceptBoot (s : State) : State :=
  { s with phase := .boot, bstep := 0, busy := true, err := .ok, bfstep := 0, mm := false, hwid := 0, dstat := 0,
           errid := 0, mode := 0, dcnt := 0 }

/-- The submission of a decoded command: ignored while BUSY, then its checks, then its acceptance (R184). -/
def State.submit (s : State) (op : Op) (r : SensorReg) (len : Nat) (accept : State → State) : State :=
  if s.busy then s
  else match acceptance op r len s with
    | .ok => accept s
    | .busFail => s.raise .busFail
    | .illegal => s.raise .illegal
    | .badReg => s.raise .badReg
    | .badLen => s.raise .badLen
    | .badValue => s.raise .badValue
    | .state => s.raise .state

/-- The submission of an ILLEGAL word (R127, R184, R185). -/
def State.submitIllegal (s : State) : State := if s.busy then s else s.raise .illegal

/-- The Sequencer's command step is enabled: an accepted bus command is waiting (R190). -/
def State.cmdWaiting (s : State) : Bool := s.busy && hostOwnsBus s

/-- The end of a bus command (R190). -/
def State.cmdDone (s : State) (o : BusAnswer) : State :=
  { s with err := (match o with
                   | .ok _ => .ok
                   | .fail => .busFail), busy := false }

/-- The boot transaction at cursor `k` is enabled (R233). -/
def State.bootAt (s : State) (k : BitVec 4) : Bool := decide (s.phase = .boot ∧ s.bstep = k)

/-- The number 1..7 of the boot transaction at the cursor: BSTEP / 2 + 1 (R233). -/
def bootNumber (bstep : BitVec 4) : BitVec 3 := (bstep >>> 1).setWidth 3 + 1

/-- The boot transaction at the cursor has failed (R241). -/
def State.bootFailure (s : State) : State :=
  { s with phase := .failed, bfstep := bootNumber s.bstep, err := .busFail, busy := false, bstep := 0, dcnt := 0 }

/-- A boot transaction other than T7 has succeeded: on to its delay of `ms` milliseconds (R233, D26). -/
def State.bootAdvance (s : State) (ms : Nat) : State := { s with bstep := s.bstep + 1, dcnt := ms + 1 }

/-- T7 has returned the MEAS_MODE echo `b`: the boot is complete (R240). -/
def State.bootComplete (s : State) (b : Byte) : State :=
  { s with mode := b, mm := decide (b ≠ s.cfg.measModeValue), phase := .armed, sstep := .check, booted := true,
           ie := true, busy := false, err := .ok, bstep := 0 }

/-- The end of a boot transaction: failure, or what the row does with the bytes (R233). -/
def bootEnd (t : BusAnswer × State) (onOk : Byte → State → State) : State :=
  match t.1 with
  | .ok b => onOk b[0] t.2
  | .fail => t.2.bootFailure

/-- T1: `TxWriteRead(HW_ID, 1)`; HWID (R232, R234). -/
def State.bootT1 (s : State) : State :=
  bootEnd (s.txWriteRead .hwId 1) fun b t => { t with hwid := b }.bootAdvance t.cfg.dHwid

/-- T2: `TxWriteRead(STATUS, 1)`; DSTAT (R232, R235). -/
def State.bootT2 (s : State) : State :=
  bootEnd (s.txWriteRead .status 1) fun b t => { t with dstat := b }.bootAdvance t.cfg.dStatus

/-- T3: `TxWriteOnly(FW_VERIFY)` (R232, R236). -/
def State.bootT3 (s : State) : State := bootEnd (s.txWriteOnly .fwVerify) fun _ t => t.bootAdvance t.cfg.dVerify

/-- T4: `TxWriteOnly(APP_START)` (R232, R237). -/
def State.bootT4 (s : State) : State := bootEnd (s.txWriteOnly .appStart) fun _ t => t.bootAdvance t.cfg.dAppstart

/-- T5: `TxWriteWrite(MEAS_MODE, [MEAS_MODE_VALUE])` (R232, R238). -/
def State.bootT5 (s : State) : State :=
  bootEnd (s.txWriteWrite .measMode [s.cfg.measModeValue]) fun _ t => t.bootAdvance t.cfg.dMode

/-- T6: `TxWriteRead(ERROR_ID, 1)`; ERRID (R232, R239). -/
def State.bootT6 (s : State) : State :=
  bootEnd (s.txWriteRead .errorId 1) fun b t => { t with errid := b }.bootAdvance t.cfg.dErrid

/-- T7: `TxWriteRead(MEAS_MODE, 1)` and completion (R232, R240). -/
def State.bootT7 (s : State) : State := bootEnd (s.txWriteRead .measMode 1) fun b t => t.bootComplete b

/-- The bytes of a successful runtime read: VALUE, then the level, emitted (R275, R315). -/
def State.newReading (s : State) (b0 b1 : Byte) : State :=
  { s with value := be16 b0 b1 }.emit (classify (be16 b0 b1))

/-- Every state element at its reset value (R371). The RST level, the parameters and what the environment has settled
are outside the reset (log 7). -/
def State.resetElements (s : State) : State :=
  { State.reset with rst := s.rst, cfg := s.cfg, agenda := s.agenda, busQueue := s.busQueue, turnIdx := s.turnIdx,
                     txIdx := s.txIdx }

/-- A host read: the register's value is returned and nothing else happens (R83); a refused access stops the run
(R82); an access outside the window does not reach the block (R81). -/
def hostRead (addr width : Nat) (s : State) : Host.Outcome State Fault Refusal :=
  match hostTarget s.cfg addr width with
  | .outside => .next s
  | .refused => .refused .hostAccess
  | .reg r => .next { s with hostOut := some (hostRegValue s r) }

/-- A host write to a register other than CMD (R84). -/
def State.writeHostReg (s : State) (r : HostReg) (v : Word) : State :=
  match r with
  | .data0 => { s with data := setData0 v s.data }
  | .data1 => { s with data := setData1 v s.data }
  | .cmd => s
  | .status => s
  | .result => s
  | .diag => s
  | .class_ => s
  | .reserved => s

end Sys2Proof.Machine
end

