-- ==== Sys2Proof/Machine/Boot.lean ====
section
/-! DEFINITION. The boot steps (42_boot_sequence.md). Where a step's enabling condition does not hold, it is not taken and
the state stays (log 4). -/

namespace Sys2Proof.Machine

/-- BOOT_TX: the transaction of row BSTEP (R232, R233). BSTEP is at most 12 (R33); a cursor above it names no row
(log 13). -/
def execBootTx (s : State) : Host.Outcome State Fault Refusal :=
  .next (if s.phase = .boot then
      match s.bstep.toNat with
      | 0 => s.bootT1
      | 2 => s.bootT2
      | 4 => s.bootT3
      | 6 => s.bootT4
      | 8 => s.bootT5
      | 10 => s.bootT6
      | 12 => s.bootT7
      | _ => s
    else s)

/-- BOOT_T1_HWID (R234). -/
def execBootT1Hwid (s : State) : Host.Outcome State Fault Refusal := .next (if s.bootAt 0 then s.bootT1 else s)
/-- BOOT_T2_STATUS (R235). -/
def execBootT2Status (s : State) : Host.Outcome State Fault Refusal := .next (if s.bootAt 2 then s.bootT2 else s)
/-- BOOT_T3_FW_VERIFY (R236). -/
def execBootT3FwVerify (s : State) : Host.Outcome State Fault Refusal := .next (if s.bootAt 4 then s.bootT3 else s)
/-- BOOT_T4_APP_START (R237). -/
def execBootT4AppStart (s : State) : Host.Outcome State Fault Refusal := .next (if s.bootAt 6 then s.bootT4 else s)
/-- BOOT_T5_MEAS_MODE (R238). -/
def execBootT5MeasMode (s : State) : Host.Outcome State Fault Refusal := .next (if s.bootAt 8 then s.bootT5 else s)
/-- BOOT_T6_ERR_ID (R239). -/
def execBootT6ErrId (s : State) : Host.Outcome State Fault Refusal := .next (if s.bootAt 10 then s.bootT6 else s)
/-- BOOT_T7_MODE_ECHO (R240). -/
def execBootT7ModeEcho (s : State) : Host.Outcome State Fault Refusal := .next (if s.bootAt 12 then s.bootT7 else s)

/-- BOOT_FAIL: what a FAIL of the boot transaction at the cursor does, its event being recorded already (R241).
BOOT_TX runs it as the end of the failing transaction; it is no step of its own (log 12). A cursor above 12 names no
transaction (log 13). -/
def execBootFail (s : State) : Host.Outcome State Fault Refusal :=
  .next (if s.phase = .boot ∧ s.bstep.toNat % 2 = 0 ∧ s.bstep.toNat ≤ 12 then s.bootFailure else s)

/-- BOOT_DELAY: on to the next transaction once DCNT is 0 (R242). -/
def execBootDelay (s : State) : Host.Outcome State Fault Refusal :=
  .next (if s.phase = .boot ∧ s.bstep.toNat % 2 = 1 ∧ s.dcnt = 0 then { s with bstep := s.bstep + 1 } else s)

/-- TICK: a TICK_MS pulse decrements DCNT while it is not 0 (R243). -/
def execTick (s : State) : Host.Outcome State Fault Refusal :=
  .next (if 0 < s.dcnt then { s with dcnt := s.dcnt - 1 } else s)

end Sys2Proof.Machine
end

