-- ==== Sys2Proof/Machine/Command.lean ====
section
/-! DEFINITION. The host commands (41_register_protocol.md, 42_boot_sequence.md R231, 44_classifier.md R312) and the
Sequencer's command step (R190). -/

namespace Sys2Proof.Machine

/-- NOP: `ERR <- OK` (R191). -/
def execNop (s : State) : Host.Outcome State Fault Refusal :=
  .next (s.submit .nop .status 0 fun t => { t with err := .ok })

/-- WRCMD, writeCommand: accepted for a command register (R192). -/
def execWrcmd (r : SensorReg) (len : Nat) (s : State) : Host.Outcome State Fault Refusal :=
  .next (s.submit .wrcmd r len fun t => t.acceptBus .wrcmd r len)

/-- WRREG, writeRegister: accepted for a writable register of width 1 (R193). -/
def execWrreg (r : SensorReg) (len : Nat) (s : State) : Host.Outcome State Fault Refusal :=
  .next (s.submit .wrreg r len fun t => t.acceptBus .wrreg r len)

/-- WRMBOX, writeMailbox: accepted for a writable register and its whole width (R194). -/
def execWrmbox (r : SensorReg) (len : Nat) (s : State) : Host.Outcome State Fault Refusal :=
  .next (s.submit .wrmbox r len fun t => t.acceptBus .wrmbox r len)

/-- RDMBOX, readMailbox: accepted for a readable register and 1 to its width (R195). -/
def execRdmbox (r : SensorReg) (len : Nat) (s : State) : Host.Outcome State Fault Refusal :=
  .next (s.submit .rdmbox r len fun t => t.acceptBus .rdmbox r len)

/-- BOOT: the boot sequence starts (R231). -/
def execBoot (s : State) : Host.Outcome State Fault Refusal :=
  .next (s.submit .boot .status 0 fun t => t.acceptBoot)

/-- CLASSIFY: `CRES <- classify(IMM); ERR <- OK` (R312). -/
def execClassify (imm : BitVec 16) (s : State) : Host.Outcome State Fault Refusal :=
  .next (s.submit .classify .status 0 fun t => { t with cres := classify imm, err := .ok })

/-- The command step of a latched WRCMD: `TxWriteOnly(r)` (R190). -/
def State.stepWrcmd (s : State) : State :=
  let t := s.txWriteOnly s.lcmd.reg
  t.2.cmdDone t.1

/-- The command step of a latched WRREG: `TxWriteWrite(r, [LDATA[0]])` (R190). -/
def State.stepWrreg (s : State) : State :=
  let t := s.txWriteWrite s.lcmd.reg [s.ldata[0]]
  t.2.cmdDone t.1

/-- The command step of a latched WRMBOX: `TxWriteWrite(r, LDATA[0..len-1])` (R190). -/
def State.stepWrmbox (s : State) : State :=
  let t := s.txWriteWrite s.lcmd.reg (firstBytes s.lcmd.len s.ldata)
  t.2.cmdDone t.1

/-- The command step of a latched RDMBOX: `TxWriteRead(r, len)`; DATA changes on success only (R190, R195). -/
def State.stepRdmbox (s : State) : State :=
  match s.txWriteRead s.lcmd.reg s.lcmd.len with
  | (.ok b, t) => { t with data := mergeBytes s.lcmd.len b s.data }.cmdDone (.ok b)
  | (.fail, t) => t.cmdDone .fail

/-- CMD_STEP (R190), where an accepted bus command waits; otherwise no step is taken (log 4). LCMD holds one of the
four bus opcodes whenever one waits (log 11). -/
def execCmdStep (s : State) : Host.Outcome State Fault Refusal :=
  .next (if s.cmdWaiting then
      match s.lcmd.op with
      | .wrcmd => s.stepWrcmd
      | .wrreg => s.stepWrreg
      | .wrmbox => s.stepWrmbox
      | .rdmbox => s.stepRdmbox
      | .nop => s
      | .boot => s
      | .classify => s
    else s)

end Sys2Proof.Machine
end

