-- ==== Sys2Proof/Machine/Loop.lean ====
section
/-! DEFINITION. Event capture and the read loop (43_read_loop.md), and RST (70_reset_and_hazards.md R370). Where a step's
enabling condition does not hold, it is not taken and the state stays (log 4). -/

namespace Sys2Proof.Machine

/-- EVT_CAPTURE: an EVT pulse sets PEND in every state (R271). -/
def execEvtCapture (s : State) : Host.Outcome State Fault Refusal := .next { s with pend := true }

/-- EVT_DELIVER: with IE and PEND set, the event moves to DRDY (R272). -/
def execEvtDeliver (s : State) : Host.Outcome State Fault Refusal :=
  .next (if s.ie && s.pend then { s with pend := false, drdy := true } else s)

/-- LOOP_WAKE: mask, then service, whatever DRDY is (R273, R274). -/
def execLoopWake (s : State) : Host.Outcome State Fault Refusal :=
  .next (if s.phase = .armed then { s with ie := false, phase := .service, sstep := .check } else s)

/-- The read attempt of a check step with DRDY set; DRDY is cleared whatever the outcome (R275). -/
def State.readResult (s : State) : State :=
  match s.txWriteRead .algResultData algLen with
  | (.ok b, t) => { t with drdy := false }.newReading b[0] b[1]
  | (.fail, t) => { t with drdy := false }

/-- LOOP_CHECK: read and classify if DRDY is set (R275). -/
def execLoopCheck (s : State) : Host.Outcome State Fault Refusal :=
  .next (if s.phase = .service ∧ s.sstep = .check then
      { (if s.drdy then s.readResult else s) with sstep := .rearm }
    else s)

/-- LOOP_REARM: unmask and wait (R276). -/
def execLoopRearm (s : State) : Host.Outcome State Fault Refusal :=
  .next (if s.phase = .service ∧ s.sstep = .rearm then { s with ie := true, phase := .armed, sstep := .check } else s)

/-- RESET: every state element takes its reset value (R370, R371). -/
def execReset (s : State) : Host.Outcome State Fault Refusal := .next s.resetElements

end Sys2Proof.Machine
end

