-- ==== Sys2Proof/Machine/Dispatch.lean ====
section
/-! DEFINITION. exec: one arm per operation of the block. -/

namespace Sys2Proof.Machine

def exec (i : Instr) (s : State) : Host.Outcome State Fault Refusal :=
  match i with
  | .nop => Sys2Proof.Machine.execNop s
  | .wrcmd reg len => Sys2Proof.Machine.execWrcmd reg len s
  | .wrreg reg len => Sys2Proof.Machine.execWrreg reg len s
  | .wrmbox reg len => Sys2Proof.Machine.execWrmbox reg len s
  | .rdmbox reg len => Sys2Proof.Machine.execRdmbox reg len s
  | .boot => Sys2Proof.Machine.execBoot s
  | .classify imm => Sys2Proof.Machine.execClassify imm s
  | .bootTx => Sys2Proof.Machine.execBootTx s
  | .bootT1Hwid => Sys2Proof.Machine.execBootT1Hwid s
  | .bootT2Status => Sys2Proof.Machine.execBootT2Status s
  | .bootT3FwVerify => Sys2Proof.Machine.execBootT3FwVerify s
  | .bootT4AppStart => Sys2Proof.Machine.execBootT4AppStart s
  | .bootT5MeasMode => Sys2Proof.Machine.execBootT5MeasMode s
  | .bootT6ErrId => Sys2Proof.Machine.execBootT6ErrId s
  | .bootT7ModeEcho => Sys2Proof.Machine.execBootT7ModeEcho s
  | .bootFail => Sys2Proof.Machine.execBootFail s
  | .bootDelay => Sys2Proof.Machine.execBootDelay s
  | .tick => Sys2Proof.Machine.execTick s
  | .cmdStep => Sys2Proof.Machine.execCmdStep s
  | .evtCapture => Sys2Proof.Machine.execEvtCapture s
  | .evtDeliver => Sys2Proof.Machine.execEvtDeliver s
  | .loopWake => Sys2Proof.Machine.execLoopWake s
  | .loopCheck => Sys2Proof.Machine.execLoopCheck s
  | .loopRearm => Sys2Proof.Machine.execLoopRearm s
  | .reset => Sys2Proof.Machine.execReset s

end Sys2Proof.Machine
end

