-- ==== Sys2Proof/Machine/Turn.lean ====
section
/-! DEFINITION. Turns: which agent moves, which instruction its turn runs, and how a CMD write is decoded and run. -/

namespace Sys2Proof.Machine

/-- The agent that moves next: the agenda's head, or a free choice (R30, log 1). -/
def State.nextTurn (s : State) : Turn :=
  match s.agenda with
  | t :: _ => t
  | [] => Config.freeTurn s.turnIdx

/-- The state a turn starts from: the turn is taken from the agenda, and the outputs that last one step (LEVEL_STB, R31,
and the host's read data) are withdrawn (log 8, log 9). -/
def State.beginTurn (s : State) : State :=
  { s with agenda := s.agenda.tail, turnIdx := s.turnIdx + 1, levelStb := false, hostOut := Option.none }

/-- The Sequencer's enabled step, if any: R190, R233, R242, R274, R275, R276. -/
def sequencerInstr (s : State) : Option Instr :=
  match s.phase with
  | .idle => if s.busy then some .cmdStep else none
  | .failed => if s.busy then some .cmdStep else none
  | .boot =>
    if s.bstep.toNat % 2 = 0 then some .bootTx else if s.dcnt = 0 then some .bootDelay else none
  | .armed => some .loopWake
  | .service =>
    match s.sstep with
    | .check => some .loopCheck
    | .rearm => some .loopRearm

/-- A word written to CMD: its instruction runs, or it is ILLEGAL (R56, R184, R185). -/
def submitWord (w : Word) (s : State) : Host.Outcome State Fault Refusal :=
  match decode w with
  | .ok i => exec i s
  | .error _ => .next s.submitIllegal

/-- A host write (R84); a refused access stops the run (R82); an access outside the window does not reach the block
(R81). -/
def hostWrite (addr width : Nat) (v : Word) (s : State) : Host.Outcome State Fault Refusal :=
  match hostTarget s.cfg addr width with
  | .outside => .next s
  | .refused => .refused .hostAccess
  | .reg .cmd => submitWord v s
  | .reg r => .next (s.writeHostReg r v)

/-- What a turn does when RST is released (R30). -/
def runTurn (t : Turn) (s : State) : Host.Outcome State Fault Refusal :=
  match t with
  | .hostRead addr width => hostRead addr width s
  | .hostWrite addr width v => hostWrite addr width v s
  | .sequencer =>
    match sequencerInstr s with
    | some i => exec i s
    | none => .next s
  | .evt => exec .evtCapture s
  | .deliver => exec .evtDeliver s
  | .tick => exec .tick s
  | .rst true => exec .reset { s with rst := true }
  | .rst false => .next { s with rst := false }

/-- What a turn does: while RST is asserted only RST's own turns have an effect (R370, log 20). -/
def takeTurn (t : Turn) (s : State) : Host.Outcome State Fault Refusal :=
  match s.rst, t with
  | true, .hostRead _ _ => .next s
  | true, .hostWrite _ _ _ => .next s
  | true, .sequencer => .next s
  | true, .evt => .next s
  | true, .deliver => .next s
  | true, .tick => .next s
  | _, t => runTurn t s

/-- The state whose next turn is a host write of the command word to CMD, RST being released (R56, log 3). -/
def State.submitNext (s : State) (w : Word) : State :=
  { s with rst := false, agenda := .hostWrite s.cfg.hostBase 32 w :: s.agenda }

end Sys2Proof.Machine
end

