-- ==== Sys2Proof/Machine/Step.lean ====
section
/-! DEFINITION. One step of the machine: the next turn of the interleaving (R30). -/

namespace Sys2Proof.Machine

/-- One atomic step: the next agent's turn. -/
def step (s : State) : Host.Outcome State Fault Refusal := takeTurn s.nextTurn s.beginTurn

/-- `s` with the command word placed where the next step takes its command: a host write to CMD at the head of the
agenda (log 3). -/
def State.withFetchWord (s : State) (nbits w : Nat) : State := s.submitNext (tableWord nbits w)

end Sys2Proof.Machine
end

