-- ==== Sys2Proof/Machine/HostStatements.lean ====
section
/-! DEFINITION. The host statements of 30_encoding.md R129 to R131 as turns of the agenda. No step reads this file: it says
which host accesses a statement of 95_test_vectors.md stands for. -/

namespace Sys2Proof.Machine

/-- `ST <name>, #<v>` (R130). -/
def stmtST (c : Config) (r : HostReg) (v : Word) : Turn := .hostWrite (c.hostBase + hostRegOffset r) 32 v

/-- `LD <name>` (R130). -/
def stmtLD (c : Config) (r : HostReg) : Turn := .hostRead (c.hostBase + hostRegOffset r) 32

/-- A command mnemonic: the host write of its encoding to CMD (R129). An internal step is no statement. -/
def stmtCommand (c : Config) (i : Instr) : Option Turn := (encode i).map (stmtST c .cmd)

/-- `WRCMD <reg>`: LEN = 0 (R129). -/
def stmtWRCMD (c : Config) (r : SensorReg) : Option Turn := stmtCommand c (.wrcmd r 0)

/-- `WRREG <reg>`: LEN = 1 (R129). -/
def stmtWRREG (c : Config) (r : SensorReg) : Option Turn := stmtCommand c (.wrreg r 1)

/-- A register operand's name in the syntax of R129 (R124); `r<n>` names the register of index n as well. -/
def regName : SensorReg → String
  | .status => "STATUS"
  | .measMode => "MEAS_MODE"
  | .algResultData => "ALG_RESULT_DATA"
  | .rawData => "RAW_DATA"
  | .envData => "ENV_DATA"
  | .thresholds => "THRESHOLDS"
  | .hwId => "HW_ID"
  | .hwVersion => "HW_VERSION"
  | .fwBootVersion => "FW_BOOT_VERSION"
  | .fwAppVersion => "FW_APP_VERSION"
  | .errorId => "ERROR_ID"
  | .fwErase => "FW_ERASE"
  | .fwProgram => "FW_PROGRAM"
  | .fwVerify => "FW_VERIFY"
  | .appStart => "APP_START"
  | .swReset => "SW_RESET"

/-- A command's statement in the syntax of R129, which writes no LEN for WRCMD (0) and WRREG (1): a command with another
LEN, and an internal step, has none. -/
def commandText : Instr → Option String
  | .nop => some "NOP"
  | .wrcmd r len => if len = 0 then some ("WRCMD " ++ regName r) else none
  | .wrreg r len => if len = 1 then some ("WRREG " ++ regName r) else none
  | .wrmbox r len => some ("WRMBOX " ++ regName r ++ ", " ++ toString len)
  | .rdmbox r len => some ("RDMBOX " ++ regName r ++ ", " ++ toString len)
  | .boot => some "BOOT"
  | .classify imm => some ("CLASSIFY #" ++ toString imm.toNat)
  | .bootTx => none
  | .bootT1Hwid => none
  | .bootT2Status => none
  | .bootT3FwVerify => none
  | .bootT4AppStart => none
  | .bootT5MeasMode => none
  | .bootT6ErrId => none
  | .bootT7ModeEcho => none
  | .bootFail => none
  | .bootDelay => none
  | .tick => none
  | .cmdStep => none
  | .evtCapture => none
  | .evtDeliver => none
  | .loopWake => none
  | .loopCheck => none
  | .loopRearm => none
  | .reset => none

/-- Byte `k` of a SETDATA list; bytes not listed are 0 (R131). -/
def setDataByte (bytes : List Byte) (k : Nat) : Byte := bytes.getD k 0

/-- `SETDATA b0, ..., bk`: DATA0, and DATA1 where a fifth byte is listed (R131). -/
def stmtSETDATA (c : Config) (bytes : List Byte) : List Turn :=
  let byte := setDataByte bytes
  let low := stmtST c .data0 (byte 3 ++ byte 2 ++ byte 1 ++ byte 0)
  if bytes.length ≤ 4 then [low] else [low, stmtST c .data1 (byte 7 ++ byte 6 ++ byte 5 ++ byte 4)]

/-- `WAIT` polls STATUS until this holds of the word read: BUSY = 0 (R131). -/
def waitEnds (status : Word) : Bool := !status.getLsbD 4

/-- `WAITARMED` polls STATUS until this holds of the word read: ARMED, SERVICE or FAILED (R131). -/
def waitArmedEnds (status : Word) : Bool :=
  let phase := (status.extractLsb' 0 4).toNat
  decide (phase = 3 ∨ phase = 4 ∨ phase = 2)

end Sys2Proof.Machine
end

