-- ==== Sys2Proof/Safety.lean ====
section
/-! DEFINITION. What claims about the block are stated over: the invariant of R64, the history's transactions and levels,
runs under a schedule, and fairness (R30). -/

namespace Sys2Proof.Machine

/-- A transaction of the history without the bytes read: `Tx(kind, a, w, m)` and whether it succeeded (R14). -/
structure TxShape where
  kind : TxKind
  address : BitVec 7
  sent : List Byte
  readCount : Nat
  success : Bool
  deriving DecidableEq, Repr

/-- The outcome is OK (R154). -/
def TxOutcome.isOk : TxOutcome → Bool
  | .ok _ => true
  | .fail => false

/-- An event's transaction, if it is one. -/
def txShape? : Event → Option TxShape
  | .tx kind a w m o => some ⟨kind, a, w, m, o.isOk⟩
  | .setLevel _ => none

/-- An event's level, if it is an emission. -/
def emitted? : Event → Option Level
  | .tx _ _ _ _ _ => none
  | .setLevel l => some l

/-- The history's transactions, oldest first (R95). -/
def txShapes (h : List Event) : List TxShape := h.filterMap txShape?

/-- The history's emitted levels, oldest first (R50). -/
def emittedLevels (h : List Event) : List Level := h.filterMap emitted?

/-- The seven transactions of the boot, all successful, in the order of R244. -/
def bootShapes (c : Config) : List TxShape :=
  [⟨.wr, c.devAddr, [regAddr c .hwId], 1, true⟩,
   ⟨.wr, c.devAddr, [regAddr c .status], 1, true⟩,
   ⟨.w, c.devAddr, [regAddr c .fwVerify], 0, true⟩,
   ⟨.w, c.devAddr, [regAddr c .appStart], 0, true⟩,
   ⟨.w, c.devAddr, [regAddr c .measMode, c.measModeValue], 0, true⟩,
   ⟨.wr, c.devAddr, [regAddr c .errorId], 1, true⟩,
   ⟨.wr, c.devAddr, [regAddr c .measMode], 1, true⟩]

/-- The transactions of a boot whose first failing transaction is the `k`-th (R244). -/
def failedBootShapes (c : Config) (k : Nat) : List TxShape :=
  (bootShapes c).take (k - 1) ++ ((bootShapes c)[k - 1]?.map fun x => { x with success := false }).toList

/-- The largest of the six boot delays (R232). -/
def maxDelay (c : Config) : Nat :=
  max c.dHwid (max c.dStatus (max c.dVerify (max c.dAppstart (max c.dMode c.dErrid))))

/-- The invariant of R64, with what else every step keeps. -/
structure BlockInv (s : State) : Prop where
  /-- The parameters meet R10's constraints. -/
  cfg_wf : s.cfg.wf = true
  /-- R64, first item. -/
  booted_iff : s.booted = true ↔ s.phase = .armed ∨ s.phase = .service
  /-- R64, second item. -/
  boot_busy : s.phase = .boot → s.busy = true
  /-- R64, second item. -/
  loop_not_busy : s.phase = .armed ∨ s.phase = .service → s.busy = false
  /-- R64, third and fourth items. -/
  ie_iff : s.ie = true ↔ s.phase = .armed
  /-- R64, fifth item: a level is emitted exactly by a successful runtime read (R275). -/
  level_last : s.level = (emittedLevels s.hist).getLast?.getD .none
  /-- NONE is never emitted (R46, R311). -/
  emitted_real : Level.none ∉ emittedLevels s.hist
  /-- R64, sixth item. -/
  bfstep_failed : s.bfstep ≠ 0 → s.phase = .failed
  /-- R64, seventh item. -/
  dcnt_boot : s.dcnt ≠ 0 → s.phase = .boot ∧ s.bstep.toNat % 2 = 1
  /-- The delay counter never exceeds the largest load (R49, R233). -/
  dcnt_bound : s.dcnt ≤ maxDelay s.cfg + 1
  /-- R33. -/
  bstep_range : s.bstep.toNat ≤ 12
  /-- The boot cursor rests at 0 (R231, R240, R241). -/
  bstep_rest : s.phase ≠ .boot → s.bstep = 0
  /-- The service cursor rests at CHECK (R34, R240, R276). -/
  sstep_rest : s.phase ≠ .service → s.sstep = .check
  /-- A waiting command passed its checks when it was latched (R184 to R188, R190). -/
  waiting_legal : s.cmdWaiting = true →
    isBusOp s.lcmd.op = true ∧ regAllows s.lcmd.op s.lcmd.reg s = true ∧
      lenAllows s.lcmd.op s.lcmd.reg s.lcmd.len s = true
  /-- While RST is asserted every state element holds its reset value (R370). -/
  rst_held : s.rst = true → s.resetElements = s

/-- R64 as the spec states it, item by item; the fifth is said of the emissions (log 24). -/
def R64Holds (s : State) : Prop :=
  (s.booted = true ↔ s.phase = .armed ∨ s.phase = .service) ∧
  (s.phase = .boot → s.busy = true) ∧
  (s.phase = .armed ∨ s.phase = .service → s.busy = false) ∧
  (s.ie = true ↔ s.phase = .armed) ∧
  (s.phase = .service → s.ie = false) ∧
  (s.level = .none ↔ emittedLevels s.hist = []) ∧
  (s.bfstep ≠ 0 → s.phase = .failed) ∧
  (¬(s.phase = .boot ∧ s.bstep.toNat % 2 = 1) → s.dcnt = 0)

/-- The states of runs from reset: any parameters that meet R10, any turns and answers settled by the environment at
any time, and every step. -/
inductive Reachable : State → Prop where
  /-- Right after reset, whatever the parameters and the environment. -/
  | start (s : State) : s.cfg.wf = true → s.resetElements = s → Reachable s
  /-- The environment settles turns and answers. -/
  | settle (s : State) (agenda : List Turn) (answers : List BusAnswer) :
      Reachable s → Reachable { s with agenda := agenda, busQueue := answers }
  /-- One step. -/
  | step (s t : State) : Reachable s → Machine.step s = .next t → Reachable t

/-- One step in which the turn is `t`. -/
def stepWith (t : Turn) (s : State) : Host.Outcome State Fault Refusal := step { s with agenda := t :: s.agenda }

/-- The state after the turns of a list, if no access is refused on the way. -/
def runTurns : List Turn → State → Option State
  | [], s => some s
  | t :: ts, s =>
    match stepWith t s with
    | .next s' => runTurns ts s'
    | .fault _ => none
    | .refused _ => none

/-- The states of a boot: from `s0` by steps taken while STATE is BOOT and RST is not asserted. -/
inductive BootRun (s0 : State) : State → Prop where
  /-- The boot begins. -/
  | start : BootRun s0 s0
  /-- One step of the boot, or of another agent during it. -/
  | step (s t : State) (turn : Turn) : BootRun s0 s → s.phase = .boot → turn ≠ .rst true →
      stepWith turn s = .next t → BootRun s0 t

/-- An infinite run in which the n-th turn is `schedule n`. -/
def IsRun (schedule : Nat → Turn) (run : Nat → State) : Prop :=
  ∀ n, stepWith (schedule n) (run n) = .next (run (n + 1))

/-- RST is never driven. -/
def NeverResets (schedule : Nat → Turn) : Prop := ∀ n level, schedule n ≠ .rst level

/-- R30: a Sequencer that stays enabled eventually takes a step. -/
def SequencerWeaklyFair (schedule : Nat → Turn) (run : Nat → State) : Prop :=
  ∀ n, (∀ m, n ≤ m → sequencerInstr (run m) ≠ none) → ∃ m, n ≤ m ∧ schedule m = .sequencer

/-- R30: a tick that stays enabled (DCNT stays above 0) eventually comes. -/
def TickWeaklyFair (schedule : Nat → Turn) (run : Nat → State) : Prop :=
  ∀ n, (∀ m, n ≤ m → 0 < (run m).dcnt) → ∃ m, n ≤ m ∧ schedule m = .tick

/-- The delivery step is enabled (R272). -/
def deliveryEnabled (s : State) : Bool := s.ie && s.pend

/-- R30: a delivery that stays enabled is eventually taken. -/
def DeliveryWeaklyFair (schedule : Nat → Turn) (run : Nat → State) : Prop :=
  ∀ n, (∀ m, n ≤ m → deliveryEnabled (run m) = true) → ∃ m, n ≤ m ∧ schedule m = .deliver

/-- A delivery enabled again and again is taken again and again. Stronger than R30's weak fairness (log 14). -/
def DeliveryStronglyFair (schedule : Nat → Turn) (run : Nat → State) : Prop :=
  (∀ n, ∃ m, n ≤ m ∧ deliveryEnabled (run m) = true) →
    ∀ n, ∃ m, n ≤ m ∧ schedule m = .deliver ∧ deliveryEnabled (run m) = true

/-- The turn is a check step that issues a read (R275). -/
def issuesRuntimeRead (t : Turn) (s : State) : Bool :=
  decide (t = .sequencer ∧ s.phase = .service ∧ s.sstep = .check ∧ s.drdy = true ∧ s.rst = false)

/-- The state less what only diagnoses: DIAG, MM and the word a host read returned (R44, R47). -/
def State.withoutDiagnostics (s : State) : State :=
  { s with hwid := 0, dstat := 0, errid := 0, mode := 0, mm := false, hostOut := Option.none }

end Sys2Proof.Machine
end

