-- ==== Sys2Proof/Certificates/Slice0/Obligations.lean ====
section
/-! DEFINITION. The statements about the block, one per obligation of OBLIGATIONS.json. -/

open Sys2Proof Sys2Proof.Machine

-- Encoding (30_encoding.md)

/-- Decoding the word of a well-formed command gives the command back: no operand bit is dropped (R121, R126). -/
def Obligations.DecodeOfEncodeIsTheCommand : Prop :=
  ∀ i : Instr, i.wf = true → i.isCommand = true → ∃ w, encode i = some w ∧ decode w = .ok i

/-- Every word that decodes is the encoding of the well-formed command it decodes to: one word a command. -/
def Obligations.EncodeOfDecodeIsTheWord : Prop :=
  ∀ (w : Word) (i : Instr), decode w = .ok i → i.wf = true ∧ i.isCommand = true ∧ encode i = some w

/-- R127: exactly these words are ILLEGAL, and submitting one while BUSY = 0 sets ERR to ILLEGAL and changes nothing
else. -/
def Obligations.IllegalWordsAreExactlyThese : Prop :=
  ∀ w : Word,
    let imm := w.extractLsb' 16 16
    let op := (w.extractLsb' 12 4).toNat
    let len := w.extractLsb' 8 4
    let rsv := w.extractLsb' 4 4
    let reg := w.extractLsb' 0 4
    let illegal := 7 ≤ op ∨ rsv ≠ 0 ∨ (imm ≠ 0 ∧ op ≠ 6) ∨ ((op = 0 ∨ op = 5 ∨ op = 6) ∧ (len ≠ 0 ∨ reg ≠ 0))
    (illegal → (∃ e, decode w = .error e) ∧
      ∀ s : State, s.busy = false → submitWord w s = .next { s with err := .illegal }) ∧
    (¬illegal → ∃ i, decode w = .ok i)

/-- R126: a word decodes to a command of an opcode exactly when it matches that opcode's row under its mask. -/
def Obligations.OpcodeRowsMatchUnderTheirMasks : Prop :=
  ∀ w : Word,
    ((∃ i, decode w = .ok i ∧ i.op? = some .nop) ↔ w &&& 0xFFFFFFFF#32 = 0x00000000#32) ∧
    ((∃ i, decode w = .ok i ∧ i.op? = some .wrcmd) ↔ w &&& 0xFFFFF0F0#32 = 0x00001000#32) ∧
    ((∃ i, decode w = .ok i ∧ i.op? = some .wrreg) ↔ w &&& 0xFFFFF0F0#32 = 0x00002000#32) ∧
    ((∃ i, decode w = .ok i ∧ i.op? = some .wrmbox) ↔ w &&& 0xFFFFF0F0#32 = 0x00003000#32) ∧
    ((∃ i, decode w = .ok i ∧ i.op? = some .rdmbox) ↔ w &&& 0xFFFFF0F0#32 = 0x00004000#32) ∧
    ((∃ i, decode w = .ok i ∧ i.op? = some .boot) ↔ w &&& 0xFFFFFFFF#32 = 0x00005000#32) ∧
    ((∃ i, decode w = .ok i ∧ i.op? = some .classify) ↔ w &&& 0x0000FFFF#32 = 0x00006000#32)

/-- R132: the example words decode to the statements the spec writes beside them. -/
def Obligations.ExampleWordsDecode : Prop :=
  decode 0x00000000#32 = .ok .nop ∧
  decode 0x0000100D#32 = .ok (.wrcmd .fwVerify 0) ∧
  decode 0x0000100E#32 = .ok (.wrcmd .appStart 0) ∧
  decode 0x00002101#32 = .ok (.wrreg .measMode 1) ∧
  decode 0x00003405#32 = .ok (.wrmbox .thresholds 4) ∧
  decode 0x00003404#32 = .ok (.wrmbox .envData 4) ∧
  decode 0x00004106#32 = .ok (.rdmbox .hwId 1) ∧
  decode 0x00004100#32 = .ok (.rdmbox .status 1) ∧
  decode 0x0000410A#32 = .ok (.rdmbox .errorId 1) ∧
  decode 0x00004202#32 = .ok (.rdmbox .algResultData 2) ∧
  decode 0x00004209#32 = .ok (.rdmbox .fwAppVersion 2) ∧
  decode 0x00005000#32 = .ok .boot ∧
  decode 0x03846000#32 = .ok (.classify 900) ∧
  decode 0x04B16000#32 = .ok (.classify 1201)

-- Steps (10_state.md R30, 70_reset_and_hazards.md R370)

/-- A step whose turn is a host write of a command's word to CMD runs that command, on the state with the turn taken
and the one-step outputs withdrawn (log 1, log 3, log 8, log 9). -/
def Obligations.StepRunsTheSubmittedCommand : Prop :=
  ∀ (s : State) (w : Word) (i : Instr),
    s.rst = false → s.nextTurn = .hostWrite s.cfg.hostBase 32 w → decode w = .ok i →
    step s = exec i { s with agenda := s.agenda.tail, turnIdx := s.turnIdx + 1, levelStb := false,
                             hostOut := none }

/-- A step, RST being released, runs what its turn stands for on the state with the turn taken: an EVT pulse, a delivery
and a tick their operation (R271, R272, R243), a host access its effect (R83, R84), a Sequencer turn the one step the
rules enable, by STATE, BUSY, BSTEP, DCNT and SSTEP (R190, R233, R242, R274, R275, R276). Where the Sequencer has no
step enabled nothing happens but the turn (log 4). -/
def Obligations.StepRunsTheStepOfItsTurn : Prop :=
  ∀ s : State, s.rst = false →
    (s.nextTurn = .evt → step s = exec .evtCapture s.beginTurn) ∧
    (s.nextTurn = .deliver → step s = exec .evtDeliver s.beginTurn) ∧
    (s.nextTurn = .tick → step s = exec .tick s.beginTurn) ∧
    (∀ addr width, s.nextTurn = .hostRead addr width → step s = runTurn (.hostRead addr width) s.beginTurn) ∧
    (∀ addr width v, s.nextTurn = .hostWrite addr width v → step s = runTurn (.hostWrite addr width v) s.beginTurn) ∧
    (s.nextTurn = .sequencer →
      ((s.phase = .idle ∨ s.phase = .failed) → s.busy = true → step s = exec .cmdStep s.beginTurn) ∧
      ((s.phase = .idle ∨ s.phase = .failed) → s.busy = false → step s = .next s.beginTurn) ∧
      (s.phase = .boot → s.bstep.toNat % 2 = 0 → step s = exec .bootTx s.beginTurn) ∧
      (s.phase = .boot → s.bstep.toNat % 2 = 1 → s.dcnt = 0 → step s = exec .bootDelay s.beginTurn) ∧
      (s.phase = .boot → s.bstep.toNat % 2 = 1 → s.dcnt ≠ 0 → step s = .next s.beginTurn) ∧
      (s.phase = .armed → step s = exec .loopWake s.beginTurn) ∧
      (s.phase = .service → s.sstep = .check → step s = exec .loopCheck s.beginTurn) ∧
      (s.phase = .service → s.sstep = .rearm → step s = exec .loopRearm s.beginTurn))

/-- R370: while RST is asserted no turn but RST's own has an effect on the block; asserting it, in any state, puts
every state element at the reset value of R371; releasing it then leaves them there. The parameters and what the
environment has settled are outside the reset (the model's choice, log 7). -/
def Obligations.ResetTakesPrecedence : Prop :=
  ∀ s : State,
    (s.rst = true → (∀ level, s.nextTurn ≠ .rst level) → step s = .next s.beginTurn) ∧
    (s.nextTurn = .rst true → step s = .next { s.beginTurn.resetElements with rst := true }) ∧
    (s.nextTurn = .rst false → step s = .next { s.beginTurn with rst := false }) ∧
    (let t := s.resetElements
     t.rst = s.rst ∧ t.cfg = s.cfg ∧ t.agenda = s.agenda ∧ t.busQueue = s.busQueue ∧ t.turnIdx = s.turnIdx ∧
       t.txIdx = s.txIdx)

/-- R371: RESET puts every state element at its reset value, and the host-visible registers read as the rule says. -/
def Obligations.ResetGivesTheResetValues : Prop :=
  ∀ s : State, ∃ t, exec .reset s = .next t ∧
    t.phase = .idle ∧ t.bstep = 0 ∧ t.sstep = .check ∧ t.busy = false ∧ t.lcmd = ⟨.nop, .status, 0⟩ ∧
    (∀ i, (h : i < 8) → t.ldata[i] = 0 ∧ t.data[i] = 0) ∧ t.err = .ok ∧ t.drdy = false ∧ t.pend = false ∧
    t.ie = false ∧ t.booted = false ∧ t.bfstep = 0 ∧ t.mm = false ∧ t.value = 0 ∧ t.level = .none ∧
    t.hwid = 0 ∧ t.dstat = 0 ∧ t.errid = 0 ∧ t.mode = 0 ∧ t.cres = .none ∧ t.dcnt = 0 ∧ t.hist = [] ∧
    t.levelStb = false ∧
    hostRegValue t .status = 0x00000000 ∧ hostRegValue t .data0 = 0x00000000 ∧ hostRegValue t .data1 = 0x00000000 ∧
    hostRegValue t .result = 0x00030000 ∧ hostRegValue t .diag = 0x00000000 ∧ hostRegValue t .class_ = 0x00000003 ∧
    hostRegValue t .cmd = 0 ∧ hostRegValue t .reserved = 0

-- Host accesses (10_state.md, 20_memory.md)

/-- R57: a read of STATUS returns every field in its bits, reserved bits 0, and changes nothing; a write is ignored; the
value after reset is 0. -/
def Obligations.StatusReadReturnsEveryField : Prop :=
  ∀ s : State, ∃ w : Word,
    runTurn (.hostRead (s.cfg.hostBase + 0x04) 32) s = .next { s with hostOut := some w } ∧
    (w.extractLsb' 0 4).toNat = (match s.phase with
      | .idle => 0
      | .boot => 1
      | .failed => 2
      | .armed => 3
      | .service => 4) ∧
    w.getLsbD 4 = s.busy ∧ w.getLsbD 5 = s.booted ∧ w.getLsbD 6 = s.drdy ∧ w.getLsbD 7 = s.pend ∧
    w.getLsbD 8 = s.ie ∧ w.getLsbD 9 = s.mm ∧ w.extractLsb' 10 2 = 0 ∧
    (w.extractLsb' 12 3).toNat = (match s.err with
      | .ok => 0
      | .busFail => 1
      | .illegal => 2
      | .badReg => 3
      | .badLen => 4
      | .badValue => 5
      | .state => 6) ∧
    w.getLsbD 15 = false ∧ w.extractLsb' 16 3 = s.bfstep ∧ w.extractLsb' 19 13 = 0 ∧
    (∀ v, runTurn (.hostWrite (s.cfg.hostBase + 0x04) 32 v) s = .next s) ∧
    runTurn (.hostRead (State.reset.cfg.hostBase + 0x04) 32) State.reset =
      .next { State.reset with hostOut := some 0x00000000#32 }

/-- R56, R58 to R63, R83: a read of each other register returns its contents, reserved bits 0, and changes
nothing. -/
def Obligations.OtherRegisterReadsReturnTheirContents : Prop :=
  ∀ s : State,
    runTurn (.hostRead (s.cfg.hostBase + 0x00) 32) s = .next { s with hostOut := some 0 } ∧
    (∃ w : Word, runTurn (.hostRead (s.cfg.hostBase + 0x08) 32) s = .next { s with hostOut := some w } ∧
      w.extractLsb' 0 8 = s.data[0] ∧ w.extractLsb' 8 8 = s.data[1] ∧ w.extractLsb' 16 8 = s.data[2] ∧
      w.extractLsb' 24 8 = s.data[3]) ∧
    (∃ w : Word, runTurn (.hostRead (s.cfg.hostBase + 0x0C) 32) s = .next { s with hostOut := some w } ∧
      w.extractLsb' 0 8 = s.data[4] ∧ w.extractLsb' 8 8 = s.data[5] ∧ w.extractLsb' 16 8 = s.data[6] ∧
      w.extractLsb' 24 8 = s.data[7]) ∧
    (∃ w : Word, runTurn (.hostRead (s.cfg.hostBase + 0x10) 32) s = .next { s with hostOut := some w } ∧
      w.extractLsb' 0 16 = s.value ∧ (w.extractLsb' 16 2).toNat = (match s.level with
        | .good => 0
        | .warning => 1
        | .alert => 2
        | .none => 3) ∧ w.extractLsb' 18 14 = 0) ∧
    (∃ w : Word, runTurn (.hostRead (s.cfg.hostBase + 0x14) 32) s = .next { s with hostOut := some w } ∧
      w.extractLsb' 0 8 = s.hwid ∧ w.extractLsb' 8 8 = s.dstat ∧ w.extractLsb' 16 8 = s.errid ∧
      w.extractLsb' 24 8 = s.mode) ∧
    (∃ w : Word, runTurn (.hostRead (s.cfg.hostBase + 0x18) 32) s = .next { s with hostOut := some w } ∧
      (w.extractLsb' 0 2).toNat = (match s.cres with
        | .good => 0
        | .warning => 1
        | .alert => 2
        | .none => 3) ∧ w.extractLsb' 2 30 = 0) ∧
    runTurn (.hostRead (s.cfg.hostBase + 0x1C) 32) s = .next { s with hostOut := some 0 }

/-- R84: a host write to CMD submits the word; to DATA0 or DATA1 it writes four bytes, lowest byte first; to any other
register it does nothing. -/
def Obligations.HostWritesHaveTheseEffectsOnly : Prop :=
  ∀ (s : State) (v : Word),
    runTurn (.hostWrite (s.cfg.hostBase + 0x00) 32 v) s = submitWord v s ∧
    (∃ d : Buf, runTurn (.hostWrite (s.cfg.hostBase + 0x08) 32 v) s = .next { s with data := d } ∧
      (∀ i, (h : i < 4) → d[i] = v.extractLsb' (8 * i) 8) ∧ (∀ i, (h : 4 ≤ i ∧ i < 8) → d[i] = s.data[i])) ∧
    (∃ d : Buf, runTurn (.hostWrite (s.cfg.hostBase + 0x0C) 32 v) s = .next { s with data := d } ∧
      (∀ i, (h : i < 4) → d[i] = s.data[i]) ∧ (∀ i, (h : 4 ≤ i ∧ i < 8) → d[i] = v.extractLsb' (8 * (i - 4)) 8)) ∧
    (∀ off ∈ [0x04, 0x10, 0x14, 0x18, 0x1C],
      runTurn (.hostWrite (s.cfg.hostBase + off) 32 v) s = .next s)

/-- R58, R59: what the host writes to DATA0 and then to DATA1 it reads back from each. -/
def Obligations.DataRegistersReadBackWhatWasWritten : Prop :=
  ∀ (s : State) (v u : Word), ∃ t,
    runTurns [.hostWrite (s.cfg.hostBase + 0x08) 32 v, .hostWrite (s.cfg.hostBase + 0x0C) 32 u]
      { s with rst := false } = some t ∧
    stepWith (.hostRead (s.cfg.hostBase + 0x08) 32) t =
      .next { t with hostOut := some v, levelStb := false, turnIdx := t.turnIdx + 1 } ∧
    stepWith (.hostRead (s.cfg.hostBase + 0x0C) 32) t =
      .next { t with hostOut := some u, levelStb := false, turnIdx := t.turnIdx + 1 }

/-- R81, R82: an access inside the window is refused when it is not 32 bits wide or not aligned; one outside does
not reach the block, and such a turn changes nothing (the model's choice, log 6; an access that begins below the window
is outside it, log 26). -/
def Obligations.OnlyAlignedWordAccessesReachTheBlock : Prop :=
  ∀ (s : State) (off width : Nat) (v : Word),
    (off < 32 → (width ≠ 32 ∨ off % 4 ≠ 0) →
      runTurn (.hostRead (s.cfg.hostBase + off) width) s = .refused .hostAccess ∧
      runTurn (.hostWrite (s.cfg.hostBase + off) width v) s = .refused .hostAccess) ∧
    (off < 32 → width = 32 → off % 4 = 0 → ∃ t, runTurn (.hostRead (s.cfg.hostBase + off) width) s = .next t) ∧
    (∀ addr, addr < s.cfg.hostBase ∨ s.cfg.hostBase + 32 ≤ addr →
      runTurn (.hostRead addr width) s = .next s ∧ runTurn (.hostWrite addr width v) s = .next s)

-- Command acceptance (41_register_protocol.md)

/-- R390, D17: a command submitted while BUSY = 1, legal or not, changes nothing. -/
def Obligations.CommandsAreIgnoredWhileBusy : Prop :=
  ∀ s : State, s.busy = true →
    (∀ i : Instr, i.isCommand = true → exec i s = .next s) ∧ (∀ w : Word, submitWord w s = .next s)

/-- R191: NOP sets ERR to OK and changes nothing else, in every state with BUSY = 0; it is ignored while BUSY = 1. Its
word is 0, and a word of its opcode with any other field set is ILLEGAL. -/
def Obligations.NopClearsErrOnly : Prop :=
  ∀ s : State,
    (s.busy = false → exec .nop s = .next { s with err := .ok }) ∧ (s.busy = true → exec .nop s = .next s) ∧
    ∀ w : Word, (decode w = .ok .nop ↔ w = 0x00000000#32) ∧
      (w.extractLsb' 12 4 = 0 → w ≠ 0x00000000#32 → s.busy = false → submitWord w s = .next { s with err := .illegal })

/-- R312: CLASSIFY puts the level of IMM in CRES and OK in ERR and changes nothing else, in every state with BUSY = 0;
it is ignored while BUSY = 1. Its word is IMM above 0x6000, and a word of its opcode with another field set is
ILLEGAL. -/
def Obligations.ClassifyWritesCresAndErrOnly : Prop :=
  ∀ (s : State) (imm : BitVec 16),
    (s.busy = false → exec (.classify imm) s = .next { s with
      cres := if 1200 < imm.toNat then .alert else if 900 < imm.toNat then .warning else .good
      err := .ok }) ∧
    (s.busy = true → exec (.classify imm) s = .next s) ∧
    ∀ w : Word, (decode w = .ok (.classify imm) ↔ w = imm ++ 0x6000#16) ∧
      (w.extractLsb' 12 4 = 6 → w.extractLsb' 0 12 ≠ 0 → s.busy = false →
        submitWord w s = .next { s with err := .illegal })

/-- R231: an accepted BOOT starts the boot and clears what the last one recorded; in ARMED and SERVICE it ends in
ERR = STATE; it is ignored while BUSY = 1. Its word is 0x00005000, and a word of its opcode with any other field set is
ILLEGAL. -/
def Obligations.BootStartsTheSequence : Prop :=
  ∀ s : State,
    (s.busy = false → (s.phase = .idle ∨ s.phase = .failed) → exec .boot s = .next { s with
      phase := .boot, bstep := 0, busy := true, err := .ok, bfstep := 0, mm := false, hwid := 0, dstat := 0,
      errid := 0, mode := 0, dcnt := 0 }) ∧
    (s.busy = false → (s.phase = .armed ∨ s.phase = .service) → exec .boot s = .next { s with err := .state }) ∧
    (s.busy = true → exec .boot s = .next s) ∧
    ∀ w : Word, (decode w = .ok .boot ↔ w = 0x00005000#32) ∧
      (w.extractLsb' 12 4 = 5 → w ≠ 0x00005000#32 → s.busy = false → submitWord w s = .next { s with err := .illegal })

/-- R192: WRCMD to a command register is latched, and its command step sends the register id alone. -/
def Obligations.WrcmdIsLatchedThenSent : Prop :=
  ∀ (s : State) (r : SensorReg), s.busy = false → (s.phase = .idle ∨ s.phase = .failed) →
    r ≠ .fwErase → r ≠ .fwProgram → regDir s.cfg r = .c →
    let a := { s with lcmd := ⟨.wrcmd, r, 0⟩, ldata := s.data, err := .ok, busy := true }
    exec (.wrcmd r 0) s = .next a ∧
    (∀ b, s.nextAnswer = .ok b → exec .cmdStep a = .next { a with
      err := .ok, busy := false, hist := s.hist ++ [.tx .w s.cfg.devAddr [regAddr s.cfg r] 0 (.ok [])],
      busQueue := s.busQueue.tail, txIdx := s.txIdx + 1 }) ∧
    (s.nextAnswer = .fail → exec .cmdStep a = .next { a with
      err := .busFail, busy := false, hist := s.hist ++ [.tx .w s.cfg.devAddr [regAddr s.cfg r] 0 .fail],
      busQueue := s.busQueue.tail, txIdx := s.txIdx + 1 })

/-- R193: WRREG to a writable one-byte register is latched, and its command step sends the register id and DATA[0] as
it was at acceptance. -/
def Obligations.WrregIsLatchedThenSent : Prop :=
  ∀ (s : State) (r : SensorReg), s.busy = false → (s.phase = .idle ∨ s.phase = .failed) →
    r ≠ .fwErase → r ≠ .fwProgram → (regDir s.cfg r = .w ∨ regDir s.cfg r = .rw) → regWidth s.cfg r = 1 →
    (r = .measMode → (s.data[0].extractLsb' 4 3).toNat ≤ 4) →
    let a := { s with lcmd := ⟨.wrreg, r, 1⟩, ldata := s.data, err := .ok, busy := true }
    exec (.wrreg r 1) s = .next a ∧
    (∀ b, s.nextAnswer = .ok b → ∀ d : Buf, exec .cmdStep { a with data := d } = .next { a with
      data := d, err := .ok, busy := false,
      hist := s.hist ++ [.tx .w s.cfg.devAddr [regAddr s.cfg r, s.data[0]] 0 (.ok [])],
      busQueue := s.busQueue.tail, txIdx := s.txIdx + 1 }) ∧
    (s.nextAnswer = .fail → ∀ d : Buf, exec .cmdStep { a with data := d } = .next { a with
      data := d, err := .busFail, busy := false,
      hist := s.hist ++ [.tx .w s.cfg.devAddr [regAddr s.cfg r, s.data[0]] 0 .fail],
      busQueue := s.busQueue.tail, txIdx := s.txIdx + 1 })

/-- R194: WRMBOX of a writable register's whole width is latched, and its command step sends the register id and
DATA[0..LEN-1] as they were at acceptance. -/
def Obligations.WrmboxIsLatchedThenSent : Prop :=
  ∀ (s : State) (r : SensorReg), s.busy = false → (s.phase = .idle ∨ s.phase = .failed) →
    r ≠ .fwErase → r ≠ .fwProgram → (regDir s.cfg r = .w ∨ regDir s.cfg r = .rw) → regWidth s.cfg r ≤ 8 →
    (r = .measMode → (s.data[0].extractLsb' 4 3).toNat ≤ 4) →
    let len := regWidth s.cfg r
    let a := { s with lcmd := ⟨.wrmbox, r, len⟩, ldata := s.data, err := .ok, busy := true }
    exec (.wrmbox r len) s = .next a ∧
    ∃ p : List Byte, p.length = len ∧ (∀ i, (h : i < 8) → i < len → p[i]? = some s.data[i]) ∧
    (∀ b, s.nextAnswer = .ok b → ∀ d : Buf, exec .cmdStep { a with data := d } = .next { a with
      data := d, err := .ok, busy := false,
      hist := s.hist ++ [.tx .w s.cfg.devAddr (regAddr s.cfg r :: p) 0 (.ok [])],
      busQueue := s.busQueue.tail, txIdx := s.txIdx + 1 }) ∧
    (s.nextAnswer = .fail → ∀ d : Buf, exec .cmdStep { a with data := d } = .next { a with
      data := d, err := .busFail, busy := false,
      hist := s.hist ++ [.tx .w s.cfg.devAddr (regAddr s.cfg r :: p) 0 .fail],
      busQueue := s.busQueue.tail, txIdx := s.txIdx + 1 })

/-- R195: RDMBOX of 1 to REG_WIDTH bytes of a readable register is latched; its command step reads them into
DATA[0..LEN-1] when the bus succeeds and leaves all of DATA when it fails. DATA is the buffer at the command step. -/
def Obligations.RdmboxIsLatchedThenRead : Prop :=
  ∀ (s : State) (r : SensorReg) (len : Nat), s.busy = false → (s.phase = .idle ∨ s.phase = .failed) →
    r ≠ .fwErase → r ≠ .fwProgram → (regDir s.cfg r = .r ∨ regDir s.cfg r = .rw) →
    1 ≤ len → len ≤ regWidth s.cfg r → regWidth s.cfg r ≤ 8 →
    let a := { s with lcmd := ⟨.rdmbox, r, len⟩, ldata := s.data, err := .ok, busy := true }
    exec (.rdmbox r len) s = .next a ∧
    (∀ b, s.nextAnswer = .ok b → ∀ d : Buf, ∃ (e : Buf) (p : List Byte),
      (∀ i, (h : i < 8) → e[i] = if i < len then b[i] else d[i]) ∧
      p.length = len ∧ (∀ i, (h : i < 8) → i < len → p[i]? = some b[i]) ∧
      exec .cmdStep { a with data := d } = .next { a with
        data := e, err := .ok, busy := false,
        hist := s.hist ++ [.tx .wr s.cfg.devAddr [regAddr s.cfg r] len (.ok p)],
        busQueue := s.busQueue.tail, txIdx := s.txIdx + 1 }) ∧
    (s.nextAnswer = .fail → ∀ d : Buf, exec .cmdStep { a with data := d } = .next { a with
      data := d, err := .busFail, busy := false,
      hist := s.hist ++ [.tx .wr s.cfg.devAddr [regAddr s.cfg r] len .fail],
      busQueue := s.busQueue.tail, txIdx := s.txIdx + 1 })

/-- R186: with STATE neither IDLE nor FAILED, bus commands and BOOT end in ERR = STATE whatever their operands, and
NOP and CLASSIFY are accepted. -/
def Obligations.BusCommandsNeedIdleOrFailed : Prop :=
  ∀ s : State, s.busy = false → s.phase ≠ .idle → s.phase ≠ .failed →
    (∀ (r : SensorReg) (len : Nat),
      exec (.wrcmd r len) s = .next { s with err := .state } ∧
      exec (.wrreg r len) s = .next { s with err := .state } ∧
      exec (.wrmbox r len) s = .next { s with err := .state } ∧
      exec (.rdmbox r len) s = .next { s with err := .state }) ∧
    exec .boot s = .next { s with err := .state } ∧
    exec .nop s = .next { s with err := .ok } ∧
    (∀ imm, exec (.classify imm) s = .next { s with cres := classify imm, err := .ok })

/-- R187: the firmware-update registers, and a register whose direction does not allow the operation, end in
ERR = BAD_REG whatever the length. -/
def Obligations.RegisterMustAllowTheOperation : Prop :=
  ∀ (s : State) (r : SensorReg) (len : Nat), s.busy = false → (s.phase = .idle ∨ s.phase = .failed) →
    let firmware := r = .fwErase ∨ r = .fwProgram
    (firmware ∨ regDir s.cfg r ≠ .c → exec (.wrcmd r len) s = .next { s with err := .badReg }) ∧
    (firmware ∨ (regDir s.cfg r ≠ .w ∧ regDir s.cfg r ≠ .rw) →
      exec (.wrreg r len) s = .next { s with err := .badReg } ∧
      exec (.wrmbox r len) s = .next { s with err := .badReg }) ∧
    (firmware ∨ (regDir s.cfg r ≠ .r ∧ regDir s.cfg r ≠ .rw) →
      exec (.rdmbox r len) s = .next { s with err := .badReg })

/-- R188: where the register allows the operation, a length that does not fit it ends in ERR = BAD_LEN. -/
def Obligations.LengthMustFitTheRegister : Prop :=
  ∀ (s : State) (r : SensorReg) (len : Nat), s.busy = false → (s.phase = .idle ∨ s.phase = .failed) →
    r ≠ .fwErase → r ≠ .fwProgram →
    (regDir s.cfg r = .c → len ≠ 0 → exec (.wrcmd r len) s = .next { s with err := .badLen }) ∧
    ((regDir s.cfg r = .w ∨ regDir s.cfg r = .rw) → (len ≠ 1 ∨ regWidth s.cfg r ≠ 1) →
      exec (.wrreg r len) s = .next { s with err := .badLen }) ∧
    ((regDir s.cfg r = .w ∨ regDir s.cfg r = .rw) → len ≠ regWidth s.cfg r →
      exec (.wrmbox r len) s = .next { s with err := .badLen }) ∧
    ((regDir s.cfg r = .r ∨ regDir s.cfg r = .rw) → (len = 0 ∨ regWidth s.cfg r < len) →
      exec (.rdmbox r len) s = .next { s with err := .badLen })

/-- R189: a write to MEAS_MODE that passed the checks before and whose first byte has a drive field above 4 ends in
ERR = BAD_VALUE. -/
def Obligations.MeasModeWritesNameADriveMode : Prop :=
  ∀ s : State, s.busy = false → (s.phase = .idle ∨ s.phase = .failed) →
    (regDir s.cfg .measMode = .w ∨ regDir s.cfg .measMode = .rw) → 4 < (s.data[0].extractLsb' 4 3).toNat →
    (regWidth s.cfg .measMode = 1 → exec (.wrreg .measMode 1) s = .next { s with err := .badValue }) ∧
    exec (.wrmbox .measMode (regWidth s.cfg .measMode)) s = .next { s with err := .badValue }

/-- R184 to R189: what a host write of any word to CMD does, written out from the rules' pseudocode over the word's bits:
ignored while BUSY = 1; else the five checks in their order, the first that fails going to ERR and nothing else
changing; else the command's effect. -/
def Obligations.SubmissionFollowsTheChecksInOrder : Prop :=
  ∀ (s : State) (w : Word),
    let imm : BitVec 16 := w.extractLsb' 16 16
    let op := (w.extractLsb' 12 4).toNat
    let len := (w.extractLsb' 8 4).toNat
    let rsv := (w.extractLsb' 4 4).toNat
    let r := (w.extractLsb' 0 4).toNat
    let reg : SensorReg := [.status, .measMode, .algResultData, .rawData, .envData, .thresholds, .hwId, .hwVersion,
      .fwBootVersion, .fwAppVersion, .errorId, .fwErase, .fwProgram, .fwVerify, .appStart, .swReset].getD r .status
    let dir := regDir s.cfg reg
    let width := regWidth s.cfg reg
    let e : Err :=
      if 7 ≤ op ∨ rsv ≠ 0 ∨ (op ≠ 6 ∧ imm ≠ 0) ∨ (op ∈ [0, 5, 6] ∧ (len ≠ 0 ∨ r ≠ 0)) then .illegal
      else if op ∈ [1, 2, 3, 4, 5] ∧ s.phase ≠ .idle ∧ s.phase ≠ .failed then .state
      else if op ∈ [1, 2, 3, 4] ∧ (r = 11 ∨ r = 12 ∨ (op = 1 ∧ dir ≠ .c) ∨
        (op ∈ [2, 3] ∧ dir ≠ .w ∧ dir ≠ .rw) ∨ (op = 4 ∧ dir ≠ .r ∧ dir ≠ .rw)) then .badReg
      else if (op = 1 ∧ len ≠ 0) ∨ (op = 2 ∧ (len ≠ 1 ∨ width ≠ 1)) ∨ (op = 3 ∧ len ≠ width) ∨
        (op = 4 ∧ (len = 0 ∨ width < len)) then .badLen
      else if op ∈ [2, 3] ∧ r = 1 ∧ 4 < (s.data[0].extractLsb' 4 3).toNat then .badValue
      else .ok
    runTurn (.hostWrite s.cfg.hostBase 32 w) s = .next (
      if s.busy then s
      else if e ≠ .ok then { s with err := e }
      else if op = 0 then { s with err := .ok }
      else if op = 5 then { s with
        phase := .boot, bstep := 0, busy := true, err := .ok, bfstep := 0, mm := false, hwid := 0, dstat := 0,
        errid := 0, mode := 0, dcnt := 0 }
      else if op = 6 then { s with
        cres := if 1200 < imm.toNat then .alert else if 900 < imm.toNat then .warning else .good
        err := .ok }
      else { s with
        lcmd := ⟨if op = 1 then .wrcmd else if op = 2 then .wrreg else if op = 3 then .wrmbox else .rdmbox, reg, len⟩
        ldata := s.data, err := .ok, busy := true })

-- Command step (R190)

/-- R190: the command step of each latched bus command performs exactly one transaction, sets ERR by its outcome,
clears BUSY, and changes DATA only where RDMBOX succeeds. -/
def Obligations.CommandStepPerformsOneTransaction : Prop :=
  ∀ (s : State) (r : SensorReg) (len : Nat) (p : List Byte),
    s.busy = true → (s.phase = .idle ∨ s.phase = .failed) → len ≤ 8 →
    p.length = len → (∀ i, (h : i < 8) → i < len → p[i]? = some s.ldata[i]) →
    let done (kind : TxKind) (w : List Byte) (m : Nat) (o : TxOutcome) : State := { s with
      err := if o = .fail then .busFail else .ok
      busy := false, hist := s.hist ++ [.tx kind s.cfg.devAddr w m o], busQueue := s.busQueue.tail,
      txIdx := s.txIdx + 1 }
    let writeOutcome : TxOutcome := if s.nextAnswer = .fail then .fail else .ok []
    (s.lcmd = ⟨.wrcmd, r, len⟩ → exec .cmdStep s = .next (done .w [regAddr s.cfg r] 0 writeOutcome)) ∧
    (s.lcmd = ⟨.wrreg, r, len⟩ → exec .cmdStep s = .next (done .w [regAddr s.cfg r, s.ldata[0]] 0 writeOutcome)) ∧
    (s.lcmd = ⟨.wrmbox, r, len⟩ → exec .cmdStep s = .next (done .w (regAddr s.cfg r :: p) 0 writeOutcome)) ∧
    (s.lcmd = ⟨.rdmbox, r, len⟩ → s.nextAnswer = .fail →
      exec .cmdStep s = .next (done .wr [regAddr s.cfg r] len .fail)) ∧
    (∀ b, s.lcmd = ⟨.rdmbox, r, len⟩ → s.nextAnswer = .ok b → ∃ (e : Buf) (q : List Byte),
      (∀ i, (h : i < 8) → e[i] = if i < len then b[i] else s.data[i]) ∧
      q.length = len ∧ (∀ i, (h : i < 8) → i < len → q[i]? = some b[i]) ∧
      exec .cmdStep s = .next { done .wr [regAddr s.cfg r] len (.ok q) with data := e })

-- Boot (42_boot_sequence.md)

/-- R234, R235, R239: a boot read of one byte captures it in its DIAG byte and loads its delay. -/
def Obligations.BootReadsCaptureTheirByte : Prop :=
  ∀ (s : State) (b : Buf), s.phase = .boot → s.nextAnswer = .ok b →
    let read (r : SensorReg) : State := { s with
      hist := s.hist ++ [.tx .wr s.cfg.devAddr [regAddr s.cfg r] 1 (.ok [b[0]])]
      busQueue := s.busQueue.tail, txIdx := s.txIdx + 1 }
    (s.bstep = 0 → ∀ i ∈ [Instr.bootTx, Instr.bootT1Hwid],
      exec i s = .next { read .hwId with hwid := b[0], bstep := 1, dcnt := s.cfg.dHwid + 1 }) ∧
    (s.bstep = 2 → ∀ i ∈ [Instr.bootTx, Instr.bootT2Status],
      exec i s = .next { read .status with dstat := b[0], bstep := 3, dcnt := s.cfg.dStatus + 1 }) ∧
    (s.bstep = 10 → ∀ i ∈ [Instr.bootTx, Instr.bootT6ErrId],
      exec i s = .next { read .errorId with errid := b[0], bstep := 11, dcnt := s.cfg.dErrid + 1 })

/-- R236, R237, R238: a boot write sends its bytes and loads its delay. -/
def Obligations.BootWritesSendTheirBytes : Prop :=
  ∀ (s : State) (b : Buf), s.phase = .boot → s.nextAnswer = .ok b →
    let sent (w : List Byte) : State := { s with
      hist := s.hist ++ [.tx .w s.cfg.devAddr w 0 (.ok [])]
      busQueue := s.busQueue.tail, txIdx := s.txIdx + 1 }
    (s.bstep = 4 → ∀ i ∈ [Instr.bootTx, Instr.bootT3FwVerify],
      exec i s = .next { sent [regAddr s.cfg .fwVerify] with bstep := 5, dcnt := s.cfg.dVerify + 1 }) ∧
    (s.bstep = 6 → ∀ i ∈ [Instr.bootTx, Instr.bootT4AppStart],
      exec i s = .next { sent [regAddr s.cfg .appStart] with bstep := 7, dcnt := s.cfg.dAppstart + 1 }) ∧
    (s.bstep = 8 → ∀ i ∈ [Instr.bootTx, Instr.bootT5MeasMode],
      exec i s = .next { sent [regAddr s.cfg .measMode, s.cfg.measModeValue] with
        bstep := 9, dcnt := s.cfg.dMode + 1 })

/-- R240: T7 captures the mode echo, sets MM when it differs from MEAS_MODE_VALUE, and arms the loop either way. -/
def Obligations.BootCompletionArmsTheLoop : Prop :=
  ∀ (s : State) (b : Buf), s.phase = .boot → s.bstep = 12 → s.nextAnswer = .ok b →
    ∀ i ∈ [Instr.bootTx, Instr.bootT7ModeEcho], exec i s = .next { s with
      hist := s.hist ++ [.tx .wr s.cfg.devAddr [regAddr s.cfg .measMode] 1 (.ok [b[0]])]
      busQueue := s.busQueue.tail, txIdx := s.txIdx + 1
      mode := b[0], mm := if b[0] = s.cfg.measModeValue then false else true
      phase := .armed, sstep := .check, booted := true, ie := true, busy := false, err := .ok, bstep := 0 }

/-- R233, R241: a FAIL of boot transaction Tk ends the boot in FAILED with BFSTEP = k and ERR = BUS_FAIL; the DIAG bytes
and the delay parameters stay. BOOT_TX does so, and the row of Tk, which is a part of it (the model's reading,
log 12). -/
def Obligations.BootFailureNamesTheTransaction : Prop :=
  ∀ (s : State) (k : Nat), 1 ≤ k → k ≤ 7 → s.phase = .boot → s.bstep.toNat = 2 * (k - 1) → s.nextAnswer = .fail →
    let rows : List Instr := [.bootT1Hwid, .bootT2Status, .bootT3FwVerify, .bootT4AppStart, .bootT5MeasMode,
      .bootT6ErrId, .bootT7ModeEcho]
    ∃ e : Event, txShape? e = (failedBootShapes s.cfg k).getLast? ∧
      ∀ i : Instr, i = .bootTx ∨ rows[k - 1]? = some i → exec i s = .next { s with
        phase := .failed, bfstep := BitVec.ofNat 3 k, err := .busFail, busy := false, bstep := 0, dcnt := 0
        hist := s.hist ++ [e], busQueue := s.busQueue.tail, txIdx := s.txIdx + 1 }

/-- The row BOOT_FAIL is R241's effect alone, the transaction having failed already (the model's reading, log 12). -/
def Obligations.BootFailRowIsTheFailureEffect : Prop :=
  ∀ (s : State) (k : Nat), 1 ≤ k → k ≤ 7 → s.phase = .boot → s.bstep.toNat = 2 * (k - 1) →
    exec .bootFail s = .next { s with
      phase := .failed, bfstep := BitVec.ofNat 3 k, err := .busFail, busy := false, bstep := 0, dcnt := 0 }

/-- R242, R394: the delay step moves the cursor once DCNT is 0; until then a Sequencer turn does nothing, and a command
submitted during the delay is ignored. -/
def Obligations.BootDelayWaitsForTheCounter : Prop :=
  ∀ s : State, s.phase = .boot → s.bstep.toNat % 2 = 1 →
    (s.dcnt = 0 → exec .bootDelay s = .next { s with bstep := s.bstep + 1 }) ∧
    (s.dcnt ≠ 0 → runTurn .sequencer s = .next s) ∧
    (s.busy = true → ∀ w, submitWord w s = .next s)

/-- A step whose enabling condition does not hold is not taken: its meaning leaves the state as it is, each row of a boot
transaction at every cursor but its own (the model's choice, log 4; cursors above 12, log 13). -/
def Obligations.StepsNotEnabledLeaveTheState : Prop :=
  ∀ s : State,
    (s.phase ≠ .boot → ∀ i ∈ [Instr.bootTx, .bootT1Hwid, .bootT2Status, .bootT3FwVerify, .bootT4AppStart,
      .bootT5MeasMode, .bootT6ErrId, .bootT7ModeEcho, .bootFail, .bootDelay], exec i s = .next s) ∧
    (s.bstep.toNat % 2 = 1 → ∀ i ∈ [Instr.bootTx, .bootT1Hwid, .bootT2Status, .bootT3FwVerify, .bootT4AppStart,
      .bootT5MeasMode, .bootT6ErrId, .bootT7ModeEcho, .bootFail], exec i s = .next s) ∧
    (s.bstep ≠ 0 → exec .bootT1Hwid s = .next s) ∧ (s.bstep ≠ 2 → exec .bootT2Status s = .next s) ∧
    (s.bstep ≠ 4 → exec .bootT3FwVerify s = .next s) ∧ (s.bstep ≠ 6 → exec .bootT4AppStart s = .next s) ∧
    (s.bstep ≠ 8 → exec .bootT5MeasMode s = .next s) ∧ (s.bstep ≠ 10 → exec .bootT6ErrId s = .next s) ∧
    (s.bstep ≠ 12 → exec .bootT7ModeEcho s = .next s) ∧
    (12 < s.bstep.toNat → exec .bootTx s = .next s ∧ exec .bootFail s = .next s) ∧
    ((s.bstep.toNat % 2 = 0 ∨ s.dcnt ≠ 0) → exec .bootDelay s = .next s) ∧
    ((s.busy = false ∨ (s.phase ≠ .idle ∧ s.phase ≠ .failed)) → exec .cmdStep s = .next s) ∧
    ((s.ie = false ∨ s.pend = false) → exec .evtDeliver s = .next s) ∧
    (s.phase ≠ .armed → exec .loopWake s = .next s) ∧
    ((s.phase ≠ .service ∨ s.sstep ≠ .check) → exec .loopCheck s = .next s) ∧
    ((s.phase ≠ .service ∨ s.sstep ≠ .rearm) → exec .loopRearm s = .next s)

/-- R243: each TICK_MS pulse takes one from DCNT while it is above 0 and has no effect otherwise. -/
def Obligations.TickCountsTheDelayDown : Prop :=
  ∀ s : State, (∀ n, s.dcnt = n + 1 → exec .tick s = .next { s with dcnt := n }) ∧
    (s.dcnt = 0 → exec .tick s = .next s)

/-- R401, R233: while fewer ticks than DCNT have come, whatever else the agents do short of RST, the boot neither moves
nor uses the bus. -/
def Obligations.NoBootTransactionBeforeItsTicks : Prop :=
  ∀ (turns : List Turn) (s t : State), s.phase = .boot → s.busy = true → s.bstep.toNat % 2 = 1 → s.rst = false →
    (∀ turn ∈ turns, turn ≠ .rst true) → turns.count .tick < s.dcnt → runTurns turns s = some t →
    t.phase = .boot ∧ t.bstep = s.bstep ∧ t.hist = s.hist ∧ t.dcnt = s.dcnt - turns.count .tick

/-- R244: whatever bytes the reads return and whatever the other agents do short of RST, a boot's transactions are
T1, T2, ... in order with no other between them: all seven and ARMED, or those up to the first failing Tk and FAILED
with BFSTEP = k. -/
def Obligations.BootIssuesItsTransactionsInOrder : Prop :=
  ∀ s0 s : State, s0.phase = .boot → s0.bstep = 0 → s0.busy = true → s0.rst = false → BootRun s0 s →
    (s.phase = .boot ∧
      txShapes s.hist = txShapes s0.hist ++ (bootShapes s0.cfg).take ((s.bstep.toNat + 1) / 2)) ∨
    (s.phase = .armed ∧ txShapes s.hist = txShapes s0.hist ++ bootShapes s0.cfg) ∨
    (s.phase = .failed ∧ ∃ k, 1 ≤ k ∧ k ≤ 7 ∧ s.bfstep.toNat = k ∧
      txShapes s.hist = txShapes s0.hist ++ failedBootShapes s0.cfg k)

-- Read loop (43_read_loop.md)

/-- R271: an EVT pulse sets PEND in every state and changes nothing else. -/
def Obligations.EvtPulseSetsPendOnly : Prop := ∀ s : State, exec .evtCapture s = .next { s with pend := true }

/-- R272: with IE = 1 and PEND = 1 the delivery step moves the pending event to DRDY, whatever DRDY was, and changes
nothing else. -/
def Obligations.DeliveryMovesPendToDrdy : Prop :=
  ∀ s : State, s.ie = true → s.pend = true → exec .evtDeliver s = .next { s with pend := false, drdy := true }

/-- R274: the wake step masks the event and enters SERVICE, whatever DRDY is. -/
def Obligations.WakeMasksBeforeInspecting : Prop :=
  ∀ s : State, s.phase = .armed → exec .loopWake s = .next { s with ie := false, phase := .service, sstep := .check }

/-- R275: a check step with DRDY = 1 reads two bytes and clears DRDY; on success VALUE is their big-endian value and
its level is emitted; on failure VALUE and LEVEL stay and nothing is emitted; with DRDY = 0 only SSTEP changes. -/
def Obligations.CheckReadsClassifiesAndEmits : Prop :=
  ∀ s : State, s.phase = .service → s.sstep = .check →
    (∀ b, s.drdy = true → s.nextAnswer = .ok b →
      let v : BitVec 16 := b[0] ++ b[1]
      let l : Level := if 1200 < v.toNat then .alert else if 900 < v.toNat then .warning else .good
      exec .loopCheck s = .next { s with
        drdy := false, value := v, level := l, levelStb := true, sstep := .rearm
        hist := s.hist ++ [.tx .wr s.cfg.devAddr [regAddr s.cfg .algResultData] 2 (.ok [b[0], b[1]]), .setLevel l]
        busQueue := s.busQueue.tail, txIdx := s.txIdx + 1 }) ∧
    (s.drdy = true → s.nextAnswer = .fail → exec .loopCheck s = .next { s with
        drdy := false, sstep := .rearm
        hist := s.hist ++ [.tx .wr s.cfg.devAddr [regAddr s.cfg .algResultData] 2 .fail]
        busQueue := s.busQueue.tail, txIdx := s.txIdx + 1 }) ∧
    (s.drdy = false → exec .loopCheck s = .next { s with sstep := .rearm })

/-- R276: the re-arm step unmasks the event and waits again. -/
def Obligations.RearmUnmasksAfterActing : Prop :=
  ∀ s : State, s.phase = .service → s.sstep = .rearm →
    exec .loopRearm s = .next { s with ie := true, phase := .armed, sstep := .check }

/-- R279, items 1, 2 and 4: over every step without RST, DRDY rises only in a delivery and falls only in a check step
that issued its read; a pending event is never lost: PEND falls only in a delivery, which sets DRDY. -/
def Obligations.DrdyAndPendChangeOnlyByDeliveryAndRead : Prop :=
  ∀ s t : State, s.nextTurn ≠ .rst true → step s = .next t →
    (s.drdy = false → t.drdy = true → s.nextTurn = .deliver ∧ s.ie = true ∧ s.pend = true) ∧
    (s.drdy = true → t.drdy = false → issuesRuntimeRead s.nextTurn s = true ∧
      ∃ o, (.tx .wr s.cfg.devAddr [regAddr s.cfg .algResultData] 2 o : Event) ∈ t.hist.drop s.hist.length) ∧
    (s.pend = true → t.pend = false → s.nextTurn = .deliver ∧ s.ie = true ∧ t.drdy = true)

/-- R278: every step without RST keeps the block in the loop once it is there. -/
def Obligations.OnlyResetLeavesTheLoop : Prop :=
  ∀ s t : State, (s.phase = .armed ∨ s.phase = .service) → s.nextTurn ≠ .rst true → step s = .next t →
    t.phase = .armed ∨ t.phase = .service

/-- R30 and R395: only a Sequencer turn starts a transaction, and it starts at most one. -/
def Obligations.OnlyTheSequencerUsesTheBus : Prop :=
  ∀ s t : State, s.nextTurn ≠ .rst true → step s = .next t →
    (s.nextTurn ≠ .sequencer → txShapes t.hist = txShapes s.hist) ∧
    (txShapes t.hist = txShapes s.hist ∨ ∃ x, txShapes t.hist = txShapes s.hist ++ [x])

/-- R80, R150, R8: from a state of the invariant, whatever transaction a step adds goes to DEV_ADDR and begins with the
address byte of a register of the table other than the two firmware-update registers. -/
def Obligations.BusTrafficStaysInTheRegisterMap : Prop :=
  ∀ (s t : State) (x : TxShape), BlockInv s → step s = .next t → txShapes t.hist = txShapes s.hist ++ [x] →
    x.address = s.cfg.devAddr ∧ x.sent.length ≤ 9 ∧ x.readCount ≤ 8 ∧
      ∃ r, r ≠ .fwErase ∧ r ≠ .fwProgram ∧ x.sent.head? = some (regAddr s.cfg r)

/-- R50: the history is empty at reset, and every step without RST only appends to it. -/
def Obligations.HistoryIsOnlyAppendedTo : Prop :=
  State.reset.hist = [] ∧
  ∀ s t : State, s.nextTurn ≠ .rst true → step s = .next t → ∃ more, t.hist = s.hist ++ more

/-- R335, R393: no host access, whatever its address, width and value, changes IE, PEND, DRDY, VALUE, LEVEL, the
history or the service cursor. -/
def Obligations.HostCannotTouchTheReadLoop : Prop :=
  ∀ (s t : State) (addr width : Nat) (v : Word),
    (runTurn (.hostRead addr width) s = .next t ∨ runTurn (.hostWrite addr width v) s = .next t) →
    t.ie = s.ie ∧ t.pend = s.pend ∧ t.drdy = s.drdy ∧ t.value = s.value ∧ t.level = s.level ∧ t.hist = s.hist ∧
      t.sstep = s.sstep ∧ t.booted = s.booted ∧ (s.phase = .armed ∨ s.phase = .service → t.phase = s.phase)

/-- R234, R235, R239, R240 and R44: no rule branches on the DIAG bytes or MM. Two states that differ in nothing else
(and in the host's last read) take the same step. -/
def Obligations.DiagnosticsNeverSteerTheBlock : Prop :=
  ∀ s s' t : State, s.withoutDiagnostics = s'.withoutDiagnostics → step s = .next t →
    ∃ t', step s' = .next t' ∧ t.withoutDiagnostics = t'.withoutDiagnostics

-- Classifier (44_classifier.md)

/-- R311: the level of every 16-bit value, and R314's preimages. -/
def Obligations.ClassifyComparesWithTheThresholds : Prop :=
  ∀ v : BitVec 16,
    (classify v = .good ↔ v.toNat ≤ 900) ∧ (classify v = .warning ↔ 901 ≤ v.toNat ∧ v.toNat ≤ 1200) ∧
    (classify v = .alert ↔ 1201 ≤ v.toNat) ∧ classify v ≠ .none

/-- R313: classify is monotonic in severity. -/
def Obligations.ClassifyIsMonotonic : Prop :=
  ∀ u v : BitVec 16, u.toNat ≤ v.toNat → (levelCode (classify u)).toNat ≤ (levelCode (classify v)).toNat

/-- R182, R183: a MEAS_MODE byte carries its drive code in bits 6:4 and its enables in bits 3 and 2, and
"drive=1s | INTERRUPT" is 0x18. -/
def Obligations.MeasModeByteFields : Prop :=
  (∀ (d : DriveMode) (i t : Bool),
    driveField (measModeByte d i t) = driveCode d ∧ (measModeByte d i t).getLsbD 3 = i ∧
    (measModeByte d i t).getLsbD 2 = t ∧ notDriveMode (measModeByte d i t) = false) ∧
  measModeByte .every1s true false = 0x18#8

-- Invariants and runs

/-- The state right after reset meets the invariant. -/
def Obligations.ResetStateMeetsTheInvariant : Prop := BlockInv State.reset

/-- Every step keeps the invariant, from every state that meets it. -/
def Obligations.StepKeepsTheInvariant : Prop := ∀ s t : State, BlockInv s → step s = .next t → BlockInv t

/-- R64: in every reachable state, whatever the parameters, the interleaving and the bus, its seven items hold. -/
def Obligations.ReachableStatesMeetR64 : Prop := ∀ s : State, Reachable s → R64Holds s

/-- R339, R82: no step faults, and a step is refused only where its turn is a host access inside the window that is not
an aligned 32-bit access, RST being released. That none is refused while RST is asserted is R370 as the model reads it
(log 20), and that none outside the window is refused is R81 as the model reads it (log 6, log 26). -/
def Obligations.OnlyBadHostAccessesAreRefused : Prop :=
  ∀ s : State, (∃ t, step s = .next t) ∨
    (step s = .refused .hostAccess ∧ s.rst = false ∧
      ∃ addr width, ((s.nextTurn = .hostRead addr width) ∨ (∃ v, s.nextTurn = .hostWrite addr width v)) ∧
        s.cfg.hostBase ≤ addr ∧ addr < s.cfg.hostBase + 32 ∧ (width ≠ 32 ∨ (addr - s.cfg.hostBase) % 4 ≠ 0))

/-- R339 (b), R30: under weak fairness of Sequencer and Tick, a command that runs completes. -/
def Obligations.BusyEventuallyClears : Prop :=
  ∀ (schedule : Nat → Turn) (run : Nat → State) (n : Nat),
    IsRun schedule run → NeverResets schedule → SequencerWeaklyFair schedule run → TickWeaklyFair schedule run →
    BlockInv (run 0) → (run n).rst = false → ∃ m, n ≤ m ∧ (run m).busy = false

/-- R281, from an EVT pulse in ARMED or SERVICE. Under the Sequencer's weak fairness (R30): a check step issues a read, or
wake steps are taken for ever while the delivery is enabled, each clearing IE before the event is delivered; and every
delivery from then on is followed by a check step that issues a read. Under strong fairness of the delivery step as well
(log 14): a check step issues a read. -/
def Obligations.EventIsEventuallyReadUnlessWakesOutrunDelivery : Prop :=
  ∀ (schedule : Nat → Turn) (run : Nat → State) (n : Nat),
    IsRun schedule run → NeverResets schedule → SequencerWeaklyFair schedule run → BlockInv (run 0) →
    (run n).rst = false → ((run n).phase = .armed ∨ (run n).phase = .service) → schedule n = .evt →
    ((∃ m, n < m ∧ issuesRuntimeRead (schedule m) (run m) = true) ∨
      ∀ k, ∃ m, k ≤ m ∧ schedule m = .sequencer ∧ (run m).phase = .armed ∧ deliveryEnabled (run m) = true) ∧
    (∀ m, n < m → schedule m = .deliver → deliveryEnabled (run m) = true →
      ∃ m', m < m' ∧ issuesRuntimeRead (schedule m') (run m') = true) ∧
    (DeliveryStronglyFair schedule run → ∃ m, n < m ∧ issuesRuntimeRead (schedule m) (run m) = true)

/-- The weak fairness of R30 alone does not give R281: some weakly fair run from an armed state takes an EVT pulse and
never reads (log 14). -/
def Obligations.WeakFairnessAloneAllowsAnUnreadEvent : Prop :=
  ∃ (schedule : Nat → Turn) (run : Nat → State),
    IsRun schedule run ∧ NeverResets schedule ∧ SequencerWeaklyFair schedule run ∧ TickWeaklyFair schedule run ∧
    DeliveryWeaklyFair schedule run ∧ BlockInv (run 0) ∧ (run 0).rst = false ∧ (run 0).phase = .armed ∧
    schedule 0 = .evt ∧ ∀ m, issuesRuntimeRead (schedule m) (run m) = false
end

