-- ==== Sys2Proof/Laws/Encode.lean ====
section
/-! SUPPORT. The fields of an assembled word, the codes and their names, and what the decoder answers. -/

namespace Sys2Proof

@[simp] theorem SensorReg.ofCode_code (r : SensorReg) : SensorReg.ofCode r.code = r := by cases r <;> rfl

theorem SensorReg.code_ofCode (c : BitVec 4) : (SensorReg.ofCode c).code = c := by revert c; decide

@[simp] theorem Op.ofCode?_code (o : Op) : Op.ofCode? o.code = some o := by cases o <;> rfl

theorem Op.ofCode?_eq_none_iff (c : BitVec 4) : Op.ofCode? c = none ↔ 7 ≤ c.toNat := by revert c; decide

theorem Op.ofCode?_eq_some_iff (c : BitVec 4) (o : Op) : Op.ofCode? c = some o ↔ c = o.code := by
  cases o <;> revert c <;> decide

section
variable (imm : BitVec 16) (op : Op) (len : Nat) (reg : BitVec 4)

@[simp] theorem fieldImm_assemble : fieldImm (assemble imm op len reg) = imm := by
  simp only [fieldImm, assemble]
  ext i hi
  simp only [BitVec.getElem_extractLsb', BitVec.getLsbD_append]
  have h1 : ¬ 16 + i < 4 := by omega
  have h2 : ¬ 16 + i - 4 < 4 := by omega
  have h3 : ¬ 16 + i - 4 - 4 < 4 := by omega
  have h4 : ¬ 16 + i - 4 - 4 - 4 < 4 := by omega
  have h5 : 16 + i - 4 - 4 - 4 - 4 = i := by omega
  simp [h1, h2, h3, h4, h5, BitVec.getLsbD_eq_getElem hi]

@[simp] theorem fieldOp_assemble : fieldOp (assemble imm op len reg) = op.code := by
  simp only [fieldOp, assemble]
  ext i hi
  simp only [BitVec.getElem_extractLsb', BitVec.getLsbD_append]
  have h1 : ¬ 12 + i < 4 := by omega
  have h2 : ¬ 12 + i - 4 < 4 := by omega
  have h3 : ¬ 12 + i - 4 - 4 < 4 := by omega
  have h5 : 12 + i - 4 - 4 - 4 = i := by omega
  simp [h1, h2, h3, h5, hi]

@[simp] theorem fieldLen_assemble : fieldLen (assemble imm op len reg) = BitVec.ofNat 4 len := by
  simp only [fieldLen, assemble]
  ext i hi
  simp only [BitVec.getElem_extractLsb', BitVec.getLsbD_append]
  have h1 : ¬ 8 + i < 4 := by omega
  have h2 : ¬ 8 + i - 4 < 4 := by omega
  have h5 : 8 + i - 4 - 4 = i := by omega
  simp [h1, h2, h5, hi, ← BitVec.getLsbD_eq_getElem]

@[simp] theorem fieldRsv_assemble : fieldRsv (assemble imm op len reg) = 0 := by
  simp only [fieldRsv, assemble]
  ext i hi
  simp only [BitVec.getElem_extractLsb', BitVec.getLsbD_append]
  have h1 : ¬ 4 + i < 4 := by omega
  have h5 : 4 + i - 4 = i := by omega
  simp [h1, h5, hi]

@[simp] theorem fieldReg_assemble : fieldReg (assemble imm op len reg) = reg := by
  simp only [fieldReg, assemble]
  ext i hi
  simp only [BitVec.getElem_extractLsb', BitVec.getLsbD_append]
  simp [hi]

end

/-- A word is its five fields. -/
theorem word_ext {w v : Word} (h1 : fieldImm w = fieldImm v) (h2 : fieldOp w = fieldOp v)
    (h3 : fieldLen w = fieldLen v) (h4 : fieldRsv w = fieldRsv v) (h5 : fieldReg w = fieldReg v) : w = v := by
  have bit : ∀ {k n : Nat} (i : Nat), i < n → w.extractLsb' k n = v.extractLsb' k n →
      w.getLsbD (k + i) = v.getLsbD (k + i) := by
    intro k n i hi h
    have := congrArg (fun x : BitVec n => x.getLsbD i) h
    simpa [BitVec.getLsbD_extractLsb', hi] using this
  apply BitVec.eq_of_getLsbD_eq
  intro i hi
  rcases (by omega : i < 4 ∨ (4 ≤ i ∧ i < 8) ∨ (8 ≤ i ∧ i < 12) ∨ (12 ≤ i ∧ i < 16) ∨ (16 ≤ i ∧ i < 32)) with
    h | h | h | h | h
  · simpa using bit i (by omega) h5
  · have := bit (i - 4) (by omega) h4; rwa [show 4 + (i - 4) = i by omega] at this
  · have := bit (i - 8) (by omega) h3; rwa [show 8 + (i - 8) = i by omega] at this
  · have := bit (i - 12) (by omega) h2; rwa [show 12 + (i - 12) = i by omega] at this
  · have := bit (i - 16) (by omega) h1; rwa [show 16 + (i - 16) = i by omega] at this

/-- What the decoder accepts is a command: no word encodes an internal step (R128). -/
theorem decode_isCommand {w : Word} {i : Instr} (h : decode w = .ok i) : i.isCommand = true := by
  unfold decode at h
  split at h
  · cases h
  · rename_i op _
    split at h
    · cases h
    · split at h
      · cases h
      · split at h
        · cases h
        · cases op <;> cases h <;> rfl

end Sys2Proof
end

