-- ==== Sys2Proof/Laws/State.lean ====
section
/-! SUPPORT. One lemma per field per named update of State, each true by rfl, so that no proof unfolds an update. -/

namespace Sys2Proof.Machine

variable (s : State)


@[simp] theorem State.raise_phase (e : Err) : (s.raise e).phase = s.phase := rfl
@[simp] theorem State.raise_bstep (e : Err) : (s.raise e).bstep = s.bstep := rfl
@[simp] theorem State.raise_sstep (e : Err) : (s.raise e).sstep = s.sstep := rfl
@[simp] theorem State.raise_busy (e : Err) : (s.raise e).busy = s.busy := rfl
@[simp] theorem State.raise_lcmd (e : Err) : (s.raise e).lcmd = s.lcmd := rfl
@[simp] theorem State.raise_ldata (e : Err) : (s.raise e).ldata = s.ldata := rfl
@[simp] theorem State.raise_data (e : Err) : (s.raise e).data = s.data := rfl
@[simp] theorem State.raise_err (e : Err) : (s.raise e).err = e := rfl
@[simp] theorem State.raise_drdy (e : Err) : (s.raise e).drdy = s.drdy := rfl
@[simp] theorem State.raise_pend (e : Err) : (s.raise e).pend = s.pend := rfl
@[simp] theorem State.raise_ie (e : Err) : (s.raise e).ie = s.ie := rfl
@[simp] theorem State.raise_booted (e : Err) : (s.raise e).booted = s.booted := rfl
@[simp] theorem State.raise_bfstep (e : Err) : (s.raise e).bfstep = s.bfstep := rfl
@[simp] theorem State.raise_mm (e : Err) : (s.raise e).mm = s.mm := rfl
@[simp] theorem State.raise_value (e : Err) : (s.raise e).value = s.value := rfl
@[simp] theorem State.raise_level (e : Err) : (s.raise e).level = s.level := rfl
@[simp] theorem State.raise_hwid (e : Err) : (s.raise e).hwid = s.hwid := rfl
@[simp] theorem State.raise_dstat (e : Err) : (s.raise e).dstat = s.dstat := rfl
@[simp] theorem State.raise_errid (e : Err) : (s.raise e).errid = s.errid := rfl
@[simp] theorem State.raise_mode (e : Err) : (s.raise e).mode = s.mode := rfl
@[simp] theorem State.raise_cres (e : Err) : (s.raise e).cres = s.cres := rfl
@[simp] theorem State.raise_dcnt (e : Err) : (s.raise e).dcnt = s.dcnt := rfl
@[simp] theorem State.raise_hist (e : Err) : (s.raise e).hist = s.hist := rfl
@[simp] theorem State.raise_levelStb (e : Err) : (s.raise e).levelStb = s.levelStb := rfl
@[simp] theorem State.raise_rst (e : Err) : (s.raise e).rst = s.rst := rfl
@[simp] theorem State.raise_hostOut (e : Err) : (s.raise e).hostOut = s.hostOut := rfl
@[simp] theorem State.raise_cfg (e : Err) : (s.raise e).cfg = s.cfg := rfl
@[simp] theorem State.raise_agenda (e : Err) : (s.raise e).agenda = s.agenda := rfl
@[simp] theorem State.raise_busQueue (e : Err) : (s.raise e).busQueue = s.busQueue := rfl
@[simp] theorem State.raise_turnIdx (e : Err) : (s.raise e).turnIdx = s.turnIdx := rfl
@[simp] theorem State.raise_txIdx (e : Err) : (s.raise e).txIdx = s.txIdx := rfl

@[simp] theorem State.acceptBus_phase (op : Op) (r : SensorReg) (len : Nat) : (s.acceptBus op r len).phase = s.phase := rfl
@[simp] theorem State.acceptBus_bstep (op : Op) (r : SensorReg) (len : Nat) : (s.acceptBus op r len).bstep = s.bstep := rfl
@[simp] theorem State.acceptBus_sstep (op : Op) (r : SensorReg) (len : Nat) : (s.acceptBus op r len).sstep = s.sstep := rfl
@[simp] theorem State.acceptBus_busy (op : Op) (r : SensorReg) (len : Nat) : (s.acceptBus op r len).busy = true := rfl
@[simp] theorem State.acceptBus_lcmd (op : Op) (r : SensorReg) (len : Nat) : (s.acceptBus op r len).lcmd = ⟨op, r, len⟩ := rfl
@[simp] theorem State.acceptBus_ldata (op : Op) (r : SensorReg) (len : Nat) : (s.acceptBus op r len).ldata = s.data := rfl
@[simp] theorem State.acceptBus_data (op : Op) (r : SensorReg) (len : Nat) : (s.acceptBus op r len).data = s.data := rfl
@[simp] theorem State.acceptBus_err (op : Op) (r : SensorReg) (len : Nat) : (s.acceptBus op r len).err = .ok := rfl
@[simp] theorem State.acceptBus_drdy (op : Op) (r : SensorReg) (len : Nat) : (s.acceptBus op r len).drdy = s.drdy := rfl
@[simp] theorem State.acceptBus_pend (op : Op) (r : SensorReg) (len : Nat) : (s.acceptBus op r len).pend = s.pend := rfl
@[simp] theorem State.acceptBus_ie (op : Op) (r : SensorReg) (len : Nat) : (s.acceptBus op r len).ie = s.ie := rfl
@[simp] theorem State.acceptBus_booted (op : Op) (r : SensorReg) (len : Nat) : (s.acceptBus op r len).booted = s.booted := rfl
@[simp] theorem State.acceptBus_bfstep (op : Op) (r : SensorReg) (len : Nat) : (s.acceptBus op r len).bfstep = s.bfstep := rfl
@[simp] theorem State.acceptBus_mm (op : Op) (r : SensorReg) (len : Nat) : (s.acceptBus op r len).mm = s.mm := rfl
@[simp] theorem State.acceptBus_value (op : Op) (r : SensorReg) (len : Nat) : (s.acceptBus op r len).value = s.value := rfl
@[simp] theorem State.acceptBus_level (op : Op) (r : SensorReg) (len : Nat) : (s.acceptBus op r len).level = s.level := rfl
@[simp] theorem State.acceptBus_hwid (op : Op) (r : SensorReg) (len : Nat) : (s.acceptBus op r len).hwid = s.hwid := rfl
@[simp] theorem State.acceptBus_dstat (op : Op) (r : SensorReg) (len : Nat) : (s.acceptBus op r len).dstat = s.dstat := rfl
@[simp] theorem State.acceptBus_errid (op : Op) (r : SensorReg) (len : Nat) : (s.acceptBus op r len).errid = s.errid := rfl
@[simp] theorem State.acceptBus_mode (op : Op) (r : SensorReg) (len : Nat) : (s.acceptBus op r len).mode = s.mode := rfl
@[simp] theorem State.acceptBus_cres (op : Op) (r : SensorReg) (len : Nat) : (s.acceptBus op r len).cres = s.cres := rfl
@[simp] theorem State.acceptBus_dcnt (op : Op) (r : SensorReg) (len : Nat) : (s.acceptBus op r len).dcnt = s.dcnt := rfl
@[simp] theorem State.acceptBus_hist (op : Op) (r : SensorReg) (len : Nat) : (s.acceptBus op r len).hist = s.hist := rfl
@[simp] theorem State.acceptBus_levelStb (op : Op) (r : SensorReg) (len : Nat) : (s.acceptBus op r len).levelStb = s.levelStb := rfl
@[simp] theorem State.acceptBus_rst (op : Op) (r : SensorReg) (len : Nat) : (s.acceptBus op r len).rst = s.rst := rfl
@[simp] theorem State.acceptBus_hostOut (op : Op) (r : SensorReg) (len : Nat) : (s.acceptBus op r len).hostOut = s.hostOut := rfl
@[simp] theorem State.acceptBus_cfg (op : Op) (r : SensorReg) (len : Nat) : (s.acceptBus op r len).cfg = s.cfg := rfl
@[simp] theorem State.acceptBus_agenda (op : Op) (r : SensorReg) (len : Nat) : (s.acceptBus op r len).agenda = s.agenda := rfl
@[simp] theorem State.acceptBus_busQueue (op : Op) (r : SensorReg) (len : Nat) : (s.acceptBus op r len).busQueue = s.busQueue := rfl
@[simp] theorem State.acceptBus_turnIdx (op : Op) (r : SensorReg) (len : Nat) : (s.acceptBus op r len).turnIdx = s.turnIdx := rfl
@[simp] theorem State.acceptBus_txIdx (op : Op) (r : SensorReg) (len : Nat) : (s.acceptBus op r len).txIdx = s.txIdx := rfl

@[simp] theorem State.acceptBoot_phase : s.acceptBoot.phase = .boot := rfl
@[simp] theorem State.acceptBoot_bstep : s.acceptBoot.bstep = 0 := rfl
@[simp] theorem State.acceptBoot_sstep : s.acceptBoot.sstep = s.sstep := rfl
@[simp] theorem State.acceptBoot_busy : s.acceptBoot.busy = true := rfl
@[simp] theorem State.acceptBoot_lcmd : s.acceptBoot.lcmd = s.lcmd := rfl
@[simp] theorem State.acceptBoot_ldata : s.acceptBoot.ldata = s.ldata := rfl
@[simp] theorem State.acceptBoot_data : s.acceptBoot.data = s.data := rfl
@[simp] theorem State.acceptBoot_err : s.acceptBoot.err = .ok := rfl
@[simp] theorem State.acceptBoot_drdy : s.acceptBoot.drdy = s.drdy := rfl
@[simp] theorem State.acceptBoot_pend : s.acceptBoot.pend = s.pend := rfl
@[simp] theorem State.acceptBoot_ie : s.acceptBoot.ie = s.ie := rfl
@[simp] theorem State.acceptBoot_booted : s.acceptBoot.booted = s.booted := rfl
@[simp] theorem State.acceptBoot_bfstep : s.acceptBoot.bfstep = 0 := rfl
@[simp] theorem State.acceptBoot_mm : s.acceptBoot.mm = false := rfl
@[simp] theorem State.acceptBoot_value : s.acceptBoot.value = s.value := rfl
@[simp] theorem State.acceptBoot_level : s.acceptBoot.level = s.level := rfl
@[simp] theorem State.acceptBoot_hwid : s.acceptBoot.hwid = 0 := rfl
@[simp] theorem State.acceptBoot_dstat : s.acceptBoot.dstat = 0 := rfl
@[simp] theorem State.acceptBoot_errid : s.acceptBoot.errid = 0 := rfl
@[simp] theorem State.acceptBoot_mode : s.acceptBoot.mode = 0 := rfl
@[simp] theorem State.acceptBoot_cres : s.acceptBoot.cres = s.cres := rfl
@[simp] theorem State.acceptBoot_dcnt : s.acceptBoot.dcnt = 0 := rfl
@[simp] theorem State.acceptBoot_hist : s.acceptBoot.hist = s.hist := rfl
@[simp] theorem State.acceptBoot_levelStb : s.acceptBoot.levelStb = s.levelStb := rfl
@[simp] theorem State.acceptBoot_rst : s.acceptBoot.rst = s.rst := rfl
@[simp] theorem State.acceptBoot_hostOut : s.acceptBoot.hostOut = s.hostOut := rfl
@[simp] theorem State.acceptBoot_cfg : s.acceptBoot.cfg = s.cfg := rfl
@[simp] theorem State.acceptBoot_agenda : s.acceptBoot.agenda = s.agenda := rfl
@[simp] theorem State.acceptBoot_busQueue : s.acceptBoot.busQueue = s.busQueue := rfl
@[simp] theorem State.acceptBoot_turnIdx : s.acceptBoot.turnIdx = s.turnIdx := rfl
@[simp] theorem State.acceptBoot_txIdx : s.acceptBoot.txIdx = s.txIdx := rfl

@[simp] theorem State.afterTx_phase (k : TxKind) (w : List Byte) (m : Nat) : (s.afterTx k w m).phase = s.phase := rfl
@[simp] theorem State.afterTx_bstep (k : TxKind) (w : List Byte) (m : Nat) : (s.afterTx k w m).bstep = s.bstep := rfl
@[simp] theorem State.afterTx_sstep (k : TxKind) (w : List Byte) (m : Nat) : (s.afterTx k w m).sstep = s.sstep := rfl
@[simp] theorem State.afterTx_busy (k : TxKind) (w : List Byte) (m : Nat) : (s.afterTx k w m).busy = s.busy := rfl
@[simp] theorem State.afterTx_lcmd (k : TxKind) (w : List Byte) (m : Nat) : (s.afterTx k w m).lcmd = s.lcmd := rfl
@[simp] theorem State.afterTx_ldata (k : TxKind) (w : List Byte) (m : Nat) : (s.afterTx k w m).ldata = s.ldata := rfl
@[simp] theorem State.afterTx_data (k : TxKind) (w : List Byte) (m : Nat) : (s.afterTx k w m).data = s.data := rfl
@[simp] theorem State.afterTx_err (k : TxKind) (w : List Byte) (m : Nat) : (s.afterTx k w m).err = s.err := rfl
@[simp] theorem State.afterTx_drdy (k : TxKind) (w : List Byte) (m : Nat) : (s.afterTx k w m).drdy = s.drdy := rfl
@[simp] theorem State.afterTx_pend (k : TxKind) (w : List Byte) (m : Nat) : (s.afterTx k w m).pend = s.pend := rfl
@[simp] theorem State.afterTx_ie (k : TxKind) (w : List Byte) (m : Nat) : (s.afterTx k w m).ie = s.ie := rfl
@[simp] theorem State.afterTx_booted (k : TxKind) (w : List Byte) (m : Nat) : (s.afterTx k w m).booted = s.booted := rfl
@[simp] theorem State.afterTx_bfstep (k : TxKind) (w : List Byte) (m : Nat) : (s.afterTx k w m).bfstep = s.bfstep := rfl
@[simp] theorem State.afterTx_mm (k : TxKind) (w : List Byte) (m : Nat) : (s.afterTx k w m).mm = s.mm := rfl
@[simp] theorem State.afterTx_value (k : TxKind) (w : List Byte) (m : Nat) : (s.afterTx k w m).value = s.value := rfl
@[simp] theorem State.afterTx_level (k : TxKind) (w : List Byte) (m : Nat) : (s.afterTx k w m).level = s.level := rfl
@[simp] theorem State.afterTx_hwid (k : TxKind) (w : List Byte) (m : Nat) : (s.afterTx k w m).hwid = s.hwid := rfl
@[simp] theorem State.afterTx_dstat (k : TxKind) (w : List Byte) (m : Nat) : (s.afterTx k w m).dstat = s.dstat := rfl
@[simp] theorem State.afterTx_errid (k : TxKind) (w : List Byte) (m : Nat) : (s.afterTx k w m).errid = s.errid := rfl
@[simp] theorem State.afterTx_mode (k : TxKind) (w : List Byte) (m : Nat) : (s.afterTx k w m).mode = s.mode := rfl
@[simp] theorem State.afterTx_cres (k : TxKind) (w : List Byte) (m : Nat) : (s.afterTx k w m).cres = s.cres := rfl
@[simp] theorem State.afterTx_dcnt (k : TxKind) (w : List Byte) (m : Nat) : (s.afterTx k w m).dcnt = s.dcnt := rfl
@[simp] theorem State.afterTx_hist (k : TxKind) (w : List Byte) (m : Nat) : (s.afterTx k w m).hist = s.hist ++ [s.txEvent k w m] := rfl
@[simp] theorem State.afterTx_levelStb (k : TxKind) (w : List Byte) (m : Nat) : (s.afterTx k w m).levelStb = s.levelStb := rfl
@[simp] theorem State.afterTx_rst (k : TxKind) (w : List Byte) (m : Nat) : (s.afterTx k w m).rst = s.rst := rfl
@[simp] theorem State.afterTx_hostOut (k : TxKind) (w : List Byte) (m : Nat) : (s.afterTx k w m).hostOut = s.hostOut := rfl
@[simp] theorem State.afterTx_cfg (k : TxKind) (w : List Byte) (m : Nat) : (s.afterTx k w m).cfg = s.cfg := rfl
@[simp] theorem State.afterTx_agenda (k : TxKind) (w : List Byte) (m : Nat) : (s.afterTx k w m).agenda = s.agenda := rfl
@[simp] theorem State.afterTx_busQueue (k : TxKind) (w : List Byte) (m : Nat) : (s.afterTx k w m).busQueue = s.busQueue.tail := rfl
@[simp] theorem State.afterTx_turnIdx (k : TxKind) (w : List Byte) (m : Nat) : (s.afterTx k w m).turnIdx = s.turnIdx := rfl
@[simp] theorem State.afterTx_txIdx (k : TxKind) (w : List Byte) (m : Nat) : (s.afterTx k w m).txIdx = s.txIdx + 1 := rfl

@[simp] theorem State.emit_phase (l : Level) : (s.emit l).phase = s.phase := rfl
@[simp] theorem State.emit_bstep (l : Level) : (s.emit l).bstep = s.bstep := rfl
@[simp] theorem State.emit_sstep (l : Level) : (s.emit l).sstep = s.sstep := rfl
@[simp] theorem State.emit_busy (l : Level) : (s.emit l).busy = s.busy := rfl
@[simp] theorem State.emit_lcmd (l : Level) : (s.emit l).lcmd = s.lcmd := rfl
@[simp] theorem State.emit_ldata (l : Level) : (s.emit l).ldata = s.ldata := rfl
@[simp] theorem State.emit_data (l : Level) : (s.emit l).data = s.data := rfl
@[simp] theorem State.emit_err (l : Level) : (s.emit l).err = s.err := rfl
@[simp] theorem State.emit_drdy (l : Level) : (s.emit l).drdy = s.drdy := rfl
@[simp] theorem State.emit_pend (l : Level) : (s.emit l).pend = s.pend := rfl
@[simp] theorem State.emit_ie (l : Level) : (s.emit l).ie = s.ie := rfl
@[simp] theorem State.emit_booted (l : Level) : (s.emit l).booted = s.booted := rfl
@[simp] theorem State.emit_bfstep (l : Level) : (s.emit l).bfstep = s.bfstep := rfl
@[simp] theorem State.emit_mm (l : Level) : (s.emit l).mm = s.mm := rfl
@[simp] theorem State.emit_value (l : Level) : (s.emit l).value = s.value := rfl
@[simp] theorem State.emit_level (l : Level) : (s.emit l).level = l := rfl
@[simp] theorem State.emit_hwid (l : Level) : (s.emit l).hwid = s.hwid := rfl
@[simp] theorem State.emit_dstat (l : Level) : (s.emit l).dstat = s.dstat := rfl
@[simp] theorem State.emit_errid (l : Level) : (s.emit l).errid = s.errid := rfl
@[simp] theorem State.emit_mode (l : Level) : (s.emit l).mode = s.mode := rfl
@[simp] theorem State.emit_cres (l : Level) : (s.emit l).cres = s.cres := rfl
@[simp] theorem State.emit_dcnt (l : Level) : (s.emit l).dcnt = s.dcnt := rfl
@[simp] theorem State.emit_hist (l : Level) : (s.emit l).hist = s.hist ++ [.setLevel l] := rfl
@[simp] theorem State.emit_levelStb (l : Level) : (s.emit l).levelStb = true := rfl
@[simp] theorem State.emit_rst (l : Level) : (s.emit l).rst = s.rst := rfl
@[simp] theorem State.emit_hostOut (l : Level) : (s.emit l).hostOut = s.hostOut := rfl
@[simp] theorem State.emit_cfg (l : Level) : (s.emit l).cfg = s.cfg := rfl
@[simp] theorem State.emit_agenda (l : Level) : (s.emit l).agenda = s.agenda := rfl
@[simp] theorem State.emit_busQueue (l : Level) : (s.emit l).busQueue = s.busQueue := rfl
@[simp] theorem State.emit_turnIdx (l : Level) : (s.emit l).turnIdx = s.turnIdx := rfl
@[simp] theorem State.emit_txIdx (l : Level) : (s.emit l).txIdx = s.txIdx := rfl

@[simp] theorem State.cmdDone_phase (o : BusAnswer) : (s.cmdDone o).phase = s.phase := rfl
@[simp] theorem State.cmdDone_bstep (o : BusAnswer) : (s.cmdDone o).bstep = s.bstep := rfl
@[simp] theorem State.cmdDone_sstep (o : BusAnswer) : (s.cmdDone o).sstep = s.sstep := rfl
@[simp] theorem State.cmdDone_busy (o : BusAnswer) : (s.cmdDone o).busy = false := rfl
@[simp] theorem State.cmdDone_lcmd (o : BusAnswer) : (s.cmdDone o).lcmd = s.lcmd := rfl
@[simp] theorem State.cmdDone_ldata (o : BusAnswer) : (s.cmdDone o).ldata = s.ldata := rfl
@[simp] theorem State.cmdDone_data (o : BusAnswer) : (s.cmdDone o).data = s.data := rfl
@[simp] theorem State.cmdDone_drdy (o : BusAnswer) : (s.cmdDone o).drdy = s.drdy := rfl
@[simp] theorem State.cmdDone_pend (o : BusAnswer) : (s.cmdDone o).pend = s.pend := rfl
@[simp] theorem State.cmdDone_ie (o : BusAnswer) : (s.cmdDone o).ie = s.ie := rfl
@[simp] theorem State.cmdDone_booted (o : BusAnswer) : (s.cmdDone o).booted = s.booted := rfl
@[simp] theorem State.cmdDone_bfstep (o : BusAnswer) : (s.cmdDone o).bfstep = s.bfstep := rfl
@[simp] theorem State.cmdDone_mm (o : BusAnswer) : (s.cmdDone o).mm = s.mm := rfl
@[simp] theorem State.cmdDone_value (o : BusAnswer) : (s.cmdDone o).value = s.value := rfl
@[simp] theorem State.cmdDone_level (o : BusAnswer) : (s.cmdDone o).level = s.level := rfl
@[simp] theorem State.cmdDone_hwid (o : BusAnswer) : (s.cmdDone o).hwid = s.hwid := rfl
@[simp] theorem State.cmdDone_dstat (o : BusAnswer) : (s.cmdDone o).dstat = s.dstat := rfl
@[simp] theorem State.cmdDone_errid (o : BusAnswer) : (s.cmdDone o).errid = s.errid := rfl
@[simp] theorem State.cmdDone_mode (o : BusAnswer) : (s.cmdDone o).mode = s.mode := rfl
@[simp] theorem State.cmdDone_cres (o : BusAnswer) : (s.cmdDone o).cres = s.cres := rfl
@[simp] theorem State.cmdDone_dcnt (o : BusAnswer) : (s.cmdDone o).dcnt = s.dcnt := rfl
@[simp] theorem State.cmdDone_hist (o : BusAnswer) : (s.cmdDone o).hist = s.hist := rfl
@[simp] theorem State.cmdDone_levelStb (o : BusAnswer) : (s.cmdDone o).levelStb = s.levelStb := rfl
@[simp] theorem State.cmdDone_rst (o : BusAnswer) : (s.cmdDone o).rst = s.rst := rfl
@[simp] theorem State.cmdDone_hostOut (o : BusAnswer) : (s.cmdDone o).hostOut = s.hostOut := rfl
@[simp] theorem State.cmdDone_cfg (o : BusAnswer) : (s.cmdDone o).cfg = s.cfg := rfl
@[simp] theorem State.cmdDone_agenda (o : BusAnswer) : (s.cmdDone o).agenda = s.agenda := rfl
@[simp] theorem State.cmdDone_busQueue (o : BusAnswer) : (s.cmdDone o).busQueue = s.busQueue := rfl
@[simp] theorem State.cmdDone_turnIdx (o : BusAnswer) : (s.cmdDone o).turnIdx = s.turnIdx := rfl
@[simp] theorem State.cmdDone_txIdx (o : BusAnswer) : (s.cmdDone o).txIdx = s.txIdx := rfl

@[simp] theorem State.bootFailure_phase : s.bootFailure.phase = .failed := rfl
@[simp] theorem State.bootFailure_bstep : s.bootFailure.bstep = 0 := rfl
@[simp] theorem State.bootFailure_sstep : s.bootFailure.sstep = s.sstep := rfl
@[simp] theorem State.bootFailure_busy : s.bootFailure.busy = false := rfl
@[simp] theorem State.bootFailure_lcmd : s.bootFailure.lcmd = s.lcmd := rfl
@[simp] theorem State.bootFailure_ldata : s.bootFailure.ldata = s.ldata := rfl
@[simp] theorem State.bootFailure_data : s.bootFailure.data = s.data := rfl
@[simp] theorem State.bootFailure_err : s.bootFailure.err = .busFail := rfl
@[simp] theorem State.bootFailure_drdy : s.bootFailure.drdy = s.drdy := rfl
@[simp] theorem State.bootFailure_pend : s.bootFailure.pend = s.pend := rfl
@[simp] theorem State.bootFailure_ie : s.bootFailure.ie = s.ie := rfl
@[simp] theorem State.bootFailure_booted : s.bootFailure.booted = s.booted := rfl
@[simp] theorem State.bootFailure_bfstep : s.bootFailure.bfstep = bootNumber s.bstep := rfl
@[simp] theorem State.bootFailure_mm : s.bootFailure.mm = s.mm := rfl
@[simp] theorem State.bootFailure_value : s.bootFailure.value = s.value := rfl
@[simp] theorem State.bootFailure_level : s.bootFailure.level = s.level := rfl
@[simp] theorem State.bootFailure_hwid : s.bootFailure.hwid = s.hwid := rfl
@[simp] theorem State.bootFailure_dstat : s.bootFailure.dstat = s.dstat := rfl
@[simp] theorem State.bootFailure_errid : s.bootFailure.errid = s.errid := rfl
@[simp] theorem State.bootFailure_mode : s.bootFailure.mode = s.mode := rfl
@[simp] theorem State.bootFailure_cres : s.bootFailure.cres = s.cres := rfl
@[simp] theorem State.bootFailure_dcnt : s.bootFailure.dcnt = 0 := rfl
@[simp] theorem State.bootFailure_hist : s.bootFailure.hist = s.hist := rfl
@[simp] theorem State.bootFailure_levelStb : s.bootFailure.levelStb = s.levelStb := rfl
@[simp] theorem State.bootFailure_rst : s.bootFailure.rst = s.rst := rfl
@[simp] theorem State.bootFailure_hostOut : s.bootFailure.hostOut = s.hostOut := rfl
@[simp] theorem State.bootFailure_cfg : s.bootFailure.cfg = s.cfg := rfl
@[simp] theorem State.bootFailure_agenda : s.bootFailure.agenda = s.agenda := rfl
@[simp] theorem State.bootFailure_busQueue : s.bootFailure.busQueue = s.busQueue := rfl
@[simp] theorem State.bootFailure_turnIdx : s.bootFailure.turnIdx = s.turnIdx := rfl
@[simp] theorem State.bootFailure_txIdx : s.bootFailure.txIdx = s.txIdx := rfl

@[simp] theorem State.bootAdvance_phase (ms : Nat) : (s.bootAdvance ms).phase = s.phase := rfl
@[simp] theorem State.bootAdvance_bstep (ms : Nat) : (s.bootAdvance ms).bstep = s.bstep + 1 := rfl
@[simp] theorem State.bootAdvance_sstep (ms : Nat) : (s.bootAdvance ms).sstep = s.sstep := rfl
@[simp] theorem State.bootAdvance_busy (ms : Nat) : (s.bootAdvance ms).busy = s.busy := rfl
@[simp] theorem State.bootAdvance_lcmd (ms : Nat) : (s.bootAdvance ms).lcmd = s.lcmd := rfl
@[simp] theorem State.bootAdvance_ldata (ms : Nat) : (s.bootAdvance ms).ldata = s.ldata := rfl
@[simp] theorem State.bootAdvance_data (ms : Nat) : (s.bootAdvance ms).data = s.data := rfl
@[simp] theorem State.bootAdvance_err (ms : Nat) : (s.bootAdvance ms).err = s.err := rfl
@[simp] theorem State.bootAdvance_drdy (ms : Nat) : (s.bootAdvance ms).drdy = s.drdy := rfl
@[simp] theorem State.bootAdvance_pend (ms : Nat) : (s.bootAdvance ms).pend = s.pend := rfl
@[simp] theorem State.bootAdvance_ie (ms : Nat) : (s.bootAdvance ms).ie = s.ie := rfl
@[simp] theorem State.bootAdvance_booted (ms : Nat) : (s.bootAdvance ms).booted = s.booted := rfl
@[simp] theorem State.bootAdvance_bfstep (ms : Nat) : (s.bootAdvance ms).bfstep = s.bfstep := rfl
@[simp] theorem State.bootAdvance_mm (ms : Nat) : (s.bootAdvance ms).mm = s.mm := rfl
@[simp] theorem State.bootAdvance_value (ms : Nat) : (s.bootAdvance ms).value = s.value := rfl
@[simp] theorem State.bootAdvance_level (ms : Nat) : (s.bootAdvance ms).level = s.level := rfl
@[simp] theorem State.bootAdvance_hwid (ms : Nat) : (s.bootAdvance ms).hwid = s.hwid := rfl
@[simp] theorem State.bootAdvance_dstat (ms : Nat) : (s.bootAdvance ms).dstat = s.dstat := rfl
@[simp] theorem State.bootAdvance_errid (ms : Nat) : (s.bootAdvance ms).errid = s.errid := rfl
@[simp] theorem State.bootAdvance_mode (ms : Nat) : (s.bootAdvance ms).mode = s.mode := rfl
@[simp] theorem State.bootAdvance_cres (ms : Nat) : (s.bootAdvance ms).cres = s.cres := rfl
@[simp] theorem State.bootAdvance_dcnt (ms : Nat) : (s.bootAdvance ms).dcnt = ms + 1 := rfl
@[simp] theorem State.bootAdvance_hist (ms : Nat) : (s.bootAdvance ms).hist = s.hist := rfl
@[simp] theorem State.bootAdvance_levelStb (ms : Nat) : (s.bootAdvance ms).levelStb = s.levelStb := rfl
@[simp] theorem State.bootAdvance_rst (ms : Nat) : (s.bootAdvance ms).rst = s.rst := rfl
@[simp] theorem State.bootAdvance_hostOut (ms : Nat) : (s.bootAdvance ms).hostOut = s.hostOut := rfl
@[simp] theorem State.bootAdvance_cfg (ms : Nat) : (s.bootAdvance ms).cfg = s.cfg := rfl
@[simp] theorem State.bootAdvance_agenda (ms : Nat) : (s.bootAdvance ms).agenda = s.agenda := rfl
@[simp] theorem State.bootAdvance_busQueue (ms : Nat) : (s.bootAdvance ms).busQueue = s.busQueue := rfl
@[simp] theorem State.bootAdvance_turnIdx (ms : Nat) : (s.bootAdvance ms).turnIdx = s.turnIdx := rfl
@[simp] theorem State.bootAdvance_txIdx (ms : Nat) : (s.bootAdvance ms).txIdx = s.txIdx := rfl

@[simp] theorem State.bootComplete_phase (b : Byte) : (s.bootComplete b).phase = .armed := rfl
@[simp] theorem State.bootComplete_bstep (b : Byte) : (s.bootComplete b).bstep = 0 := rfl
@[simp] theorem State.bootComplete_sstep (b : Byte) : (s.bootComplete b).sstep = .check := rfl
@[simp] theorem State.bootComplete_busy (b : Byte) : (s.bootComplete b).busy = false := rfl
@[simp] theorem State.bootComplete_lcmd (b : Byte) : (s.bootComplete b).lcmd = s.lcmd := rfl
@[simp] theorem State.bootComplete_ldata (b : Byte) : (s.bootComplete b).ldata = s.ldata := rfl
@[simp] theorem State.bootComplete_data (b : Byte) : (s.bootComplete b).data = s.data := rfl
@[simp] theorem State.bootComplete_err (b : Byte) : (s.bootComplete b).err = .ok := rfl
@[simp] theorem State.bootComplete_drdy (b : Byte) : (s.bootComplete b).drdy = s.drdy := rfl
@[simp] theorem State.bootComplete_pend (b : Byte) : (s.bootComplete b).pend = s.pend := rfl
@[simp] theorem State.bootComplete_ie (b : Byte) : (s.bootComplete b).ie = true := rfl
@[simp] theorem State.bootComplete_booted (b : Byte) : (s.bootComplete b).booted = true := rfl
@[simp] theorem State.bootComplete_bfstep (b : Byte) : (s.bootComplete b).bfstep = s.bfstep := rfl
@[simp] theorem State.bootComplete_mm (b : Byte) : (s.bootComplete b).mm = decide (b ≠ s.cfg.measModeValue) := rfl
@[simp] theorem State.bootComplete_value (b : Byte) : (s.bootComplete b).value = s.value := rfl
@[simp] theorem State.bootComplete_level (b : Byte) : (s.bootComplete b).level = s.level := rfl
@[simp] theorem State.bootComplete_hwid (b : Byte) : (s.bootComplete b).hwid = s.hwid := rfl
@[simp] theorem State.bootComplete_dstat (b : Byte) : (s.bootComplete b).dstat = s.dstat := rfl
@[simp] theorem State.bootComplete_errid (b : Byte) : (s.bootComplete b).errid = s.errid := rfl
@[simp] theorem State.bootComplete_mode (b : Byte) : (s.bootComplete b).mode = b := rfl
@[simp] theorem State.bootComplete_cres (b : Byte) : (s.bootComplete b).cres = s.cres := rfl
@[simp] theorem State.bootComplete_dcnt (b : Byte) : (s.bootComplete b).dcnt = s.dcnt := rfl
@[simp] theorem State.bootComplete_hist (b : Byte) : (s.bootComplete b).hist = s.hist := rfl
@[simp] theorem State.bootComplete_levelStb (b : Byte) : (s.bootComplete b).levelStb = s.levelStb := rfl
@[simp] theorem State.bootComplete_rst (b : Byte) : (s.bootComplete b).rst = s.rst := rfl
@[simp] theorem State.bootComplete_hostOut (b : Byte) : (s.bootComplete b).hostOut = s.hostOut := rfl
@[simp] theorem State.bootComplete_cfg (b : Byte) : (s.bootComplete b).cfg = s.cfg := rfl
@[simp] theorem State.bootComplete_agenda (b : Byte) : (s.bootComplete b).agenda = s.agenda := rfl
@[simp] theorem State.bootComplete_busQueue (b : Byte) : (s.bootComplete b).busQueue = s.busQueue := rfl
@[simp] theorem State.bootComplete_turnIdx (b : Byte) : (s.bootComplete b).turnIdx = s.turnIdx := rfl
@[simp] theorem State.bootComplete_txIdx (b : Byte) : (s.bootComplete b).txIdx = s.txIdx := rfl

@[simp] theorem State.newReading_phase (b0 b1 : Byte) : (s.newReading b0 b1).phase = s.phase := rfl
@[simp] theorem State.newReading_bstep (b0 b1 : Byte) : (s.newReading b0 b1).bstep = s.bstep := rfl
@[simp] theorem State.newReading_sstep (b0 b1 : Byte) : (s.newReading b0 b1).sstep = s.sstep := rfl
@[simp] theorem State.newReading_busy (b0 b1 : Byte) : (s.newReading b0 b1).busy = s.busy := rfl
@[simp] theorem State.newReading_lcmd (b0 b1 : Byte) : (s.newReading b0 b1).lcmd = s.lcmd := rfl
@[simp] theorem State.newReading_ldata (b0 b1 : Byte) : (s.newReading b0 b1).ldata = s.ldata := rfl
@[simp] theorem State.newReading_data (b0 b1 : Byte) : (s.newReading b0 b1).data = s.data := rfl
@[simp] theorem State.newReading_err (b0 b1 : Byte) : (s.newReading b0 b1).err = s.err := rfl
@[simp] theorem State.newReading_drdy (b0 b1 : Byte) : (s.newReading b0 b1).drdy = s.drdy := rfl
@[simp] theorem State.newReading_pend (b0 b1 : Byte) : (s.newReading b0 b1).pend = s.pend := rfl
@[simp] theorem State.newReading_ie (b0 b1 : Byte) : (s.newReading b0 b1).ie = s.ie := rfl
@[simp] theorem State.newReading_booted (b0 b1 : Byte) : (s.newReading b0 b1).booted = s.booted := rfl
@[simp] theorem State.newReading_bfstep (b0 b1 : Byte) : (s.newReading b0 b1).bfstep = s.bfstep := rfl
@[simp] theorem State.newReading_mm (b0 b1 : Byte) : (s.newReading b0 b1).mm = s.mm := rfl
@[simp] theorem State.newReading_value (b0 b1 : Byte) : (s.newReading b0 b1).value = be16 b0 b1 := rfl
@[simp] theorem State.newReading_level (b0 b1 : Byte) : (s.newReading b0 b1).level = classify (be16 b0 b1) := rfl
@[simp] theorem State.newReading_hwid (b0 b1 : Byte) : (s.newReading b0 b1).hwid = s.hwid := rfl
@[simp] theorem State.newReading_dstat (b0 b1 : Byte) : (s.newReading b0 b1).dstat = s.dstat := rfl
@[simp] theorem State.newReading_errid (b0 b1 : Byte) : (s.newReading b0 b1).errid = s.errid := rfl
@[simp] theorem State.newReading_mode (b0 b1 : Byte) : (s.newReading b0 b1).mode = s.mode := rfl
@[simp] theorem State.newReading_cres (b0 b1 : Byte) : (s.newReading b0 b1).cres = s.cres := rfl
@[simp] theorem State.newReading_dcnt (b0 b1 : Byte) : (s.newReading b0 b1).dcnt = s.dcnt := rfl
@[simp] theorem State.newReading_hist (b0 b1 : Byte) : (s.newReading b0 b1).hist = s.hist ++ [.setLevel (classify (be16 b0 b1))] := rfl
@[simp] theorem State.newReading_levelStb (b0 b1 : Byte) : (s.newReading b0 b1).levelStb = true := rfl
@[simp] theorem State.newReading_rst (b0 b1 : Byte) : (s.newReading b0 b1).rst = s.rst := rfl
@[simp] theorem State.newReading_hostOut (b0 b1 : Byte) : (s.newReading b0 b1).hostOut = s.hostOut := rfl
@[simp] theorem State.newReading_cfg (b0 b1 : Byte) : (s.newReading b0 b1).cfg = s.cfg := rfl
@[simp] theorem State.newReading_agenda (b0 b1 : Byte) : (s.newReading b0 b1).agenda = s.agenda := rfl
@[simp] theorem State.newReading_busQueue (b0 b1 : Byte) : (s.newReading b0 b1).busQueue = s.busQueue := rfl
@[simp] theorem State.newReading_turnIdx (b0 b1 : Byte) : (s.newReading b0 b1).turnIdx = s.turnIdx := rfl
@[simp] theorem State.newReading_txIdx (b0 b1 : Byte) : (s.newReading b0 b1).txIdx = s.txIdx := rfl

@[simp] theorem State.resetElements_phase : s.resetElements.phase = State.reset.phase := rfl
@[simp] theorem State.resetElements_bstep : s.resetElements.bstep = State.reset.bstep := rfl
@[simp] theorem State.resetElements_sstep : s.resetElements.sstep = State.reset.sstep := rfl
@[simp] theorem State.resetElements_busy : s.resetElements.busy = State.reset.busy := rfl
@[simp] theorem State.resetElements_lcmd : s.resetElements.lcmd = State.reset.lcmd := rfl
@[simp] theorem State.resetElements_ldata : s.resetElements.ldata = State.reset.ldata := rfl
@[simp] theorem State.resetElements_data : s.resetElements.data = State.reset.data := rfl
@[simp] theorem State.resetElements_err : s.resetElements.err = State.reset.err := rfl
@[simp] theorem State.resetElements_drdy : s.resetElements.drdy = State.reset.drdy := rfl
@[simp] theorem State.resetElements_pend : s.resetElements.pend = State.reset.pend := rfl
@[simp] theorem State.resetElements_ie : s.resetElements.ie = State.reset.ie := rfl
@[simp] theorem State.resetElements_booted : s.resetElements.booted = State.reset.booted := rfl
@[simp] theorem State.resetElements_bfstep : s.resetElements.bfstep = State.reset.bfstep := rfl
@[simp] theorem State.resetElements_mm : s.resetElements.mm = State.reset.mm := rfl
@[simp] theorem State.resetElements_value : s.resetElements.value = State.reset.value := rfl
@[simp] theorem State.resetElements_level : s.resetElements.level = State.reset.level := rfl
@[simp] theorem State.resetElements_hwid : s.resetElements.hwid = State.reset.hwid := rfl
@[simp] theorem State.resetElements_dstat : s.resetElements.dstat = State.reset.dstat := rfl
@[simp] theorem State.resetElements_errid : s.resetElements.errid = State.reset.errid := rfl
@[simp] theorem State.resetElements_mode : s.resetElements.mode = State.reset.mode := rfl
@[simp] theorem State.resetElements_cres : s.resetElements.cres = State.reset.cres := rfl
@[simp] theorem State.resetElements_dcnt : s.resetElements.dcnt = State.reset.dcnt := rfl
@[simp] theorem State.resetElements_hist : s.resetElements.hist = State.reset.hist := rfl
@[simp] theorem State.resetElements_levelStb : s.resetElements.levelStb = State.reset.levelStb := rfl
@[simp] theorem State.resetElements_rst : s.resetElements.rst = s.rst := rfl
@[simp] theorem State.resetElements_hostOut : s.resetElements.hostOut = State.reset.hostOut := rfl
@[simp] theorem State.resetElements_cfg : s.resetElements.cfg = s.cfg := rfl
@[simp] theorem State.resetElements_agenda : s.resetElements.agenda = s.agenda := rfl
@[simp] theorem State.resetElements_busQueue : s.resetElements.busQueue = s.busQueue := rfl
@[simp] theorem State.resetElements_turnIdx : s.resetElements.turnIdx = s.turnIdx := rfl
@[simp] theorem State.resetElements_txIdx : s.resetElements.txIdx = s.txIdx := rfl

@[simp] theorem State.beginTurn_phase : s.beginTurn.phase = s.phase := rfl
@[simp] theorem State.beginTurn_bstep : s.beginTurn.bstep = s.bstep := rfl
@[simp] theorem State.beginTurn_sstep : s.beginTurn.sstep = s.sstep := rfl
@[simp] theorem State.beginTurn_busy : s.beginTurn.busy = s.busy := rfl
@[simp] theorem State.beginTurn_lcmd : s.beginTurn.lcmd = s.lcmd := rfl
@[simp] theorem State.beginTurn_ldata : s.beginTurn.ldata = s.ldata := rfl
@[simp] theorem State.beginTurn_data : s.beginTurn.data = s.data := rfl
@[simp] theorem State.beginTurn_err : s.beginTurn.err = s.err := rfl
@[simp] theorem State.beginTurn_drdy : s.beginTurn.drdy = s.drdy := rfl
@[simp] theorem State.beginTurn_pend : s.beginTurn.pend = s.pend := rfl
@[simp] theorem State.beginTurn_ie : s.beginTurn.ie = s.ie := rfl
@[simp] theorem State.beginTurn_booted : s.beginTurn.booted = s.booted := rfl
@[simp] theorem State.beginTurn_bfstep : s.beginTurn.bfstep = s.bfstep := rfl
@[simp] theorem State.beginTurn_mm : s.beginTurn.mm = s.mm := rfl
@[simp] theorem State.beginTurn_value : s.beginTurn.value = s.value := rfl
@[simp] theorem State.beginTurn_level : s.beginTurn.level = s.level := rfl
@[simp] theorem State.beginTurn_hwid : s.beginTurn.hwid = s.hwid := rfl
@[simp] theorem State.beginTurn_dstat : s.beginTurn.dstat = s.dstat := rfl
@[simp] theorem State.beginTurn_errid : s.beginTurn.errid = s.errid := rfl
@[simp] theorem State.beginTurn_mode : s.beginTurn.mode = s.mode := rfl
@[simp] theorem State.beginTurn_cres : s.beginTurn.cres = s.cres := rfl
@[simp] theorem State.beginTurn_dcnt : s.beginTurn.dcnt = s.dcnt := rfl
@[simp] theorem State.beginTurn_hist : s.beginTurn.hist = s.hist := rfl
@[simp] theorem State.beginTurn_levelStb : s.beginTurn.levelStb = false := rfl
@[simp] theorem State.beginTurn_rst : s.beginTurn.rst = s.rst := rfl
@[simp] theorem State.beginTurn_hostOut : s.beginTurn.hostOut = none := rfl
@[simp] theorem State.beginTurn_cfg : s.beginTurn.cfg = s.cfg := rfl
@[simp] theorem State.beginTurn_agenda : s.beginTurn.agenda = s.agenda.tail := rfl
@[simp] theorem State.beginTurn_busQueue : s.beginTurn.busQueue = s.busQueue := rfl
@[simp] theorem State.beginTurn_turnIdx : s.beginTurn.turnIdx = s.turnIdx + 1 := rfl
@[simp] theorem State.beginTurn_txIdx : s.beginTurn.txIdx = s.txIdx := rfl

@[simp] theorem State.cmdDone_err_ok (b : Buf) : (s.cmdDone (.ok b)).err = .ok := rfl
@[simp] theorem State.cmdDone_err_fail : (s.cmdDone .fail).err = .busFail := rfl

end Sys2Proof.Machine
end

