-- ==== Sys2Proof/Laws/Ops.lean ====
section
/-! SUPPORT. One lemma per shared operation that says everything it can do. -/

namespace Sys2Proof.Machine

-- Operands

@[simp] theorem firstBytes_zero (b : Buf) : firstBytes 0 b = [] := by simp [firstBytes]

theorem firstBytes_length (n : Nat) (b : Buf) (h : n ≤ 8) : (firstBytes n b).length = n := by
  simp [firstBytes, h]

theorem firstBytes_getElem? (n : Nat) (b : Buf) (i : Nat) (hi : i < 8) (h : i < n) :
    (firstBytes n b)[i]? = some b[i] := by
  simp [firstBytes, h, hi]

theorem eq_firstBytes {n : Nat} {b : Buf} {p : List Byte} (hn : n ≤ 8) (hp : p.length = n)
    (h : ∀ i, (hi : i < 8) → i < n → p[i]? = some b[i]) : p = firstBytes n b := by
  apply List.ext_getElem?
  intro i
  by_cases hi : i < n
  · rw [h i (by omega) hi, firstBytes_getElem? n b i (by omega) hi]
  · rw [List.getElem?_eq_none (by omega), List.getElem?_eq_none (by rw [firstBytes_length n b hn]; omega)]

@[simp] theorem firstBytes_one (b : Buf) : firstBytes 1 b = [b[0]] := by
  refine (eq_firstBytes (n := 1) (p := [b[0]]) (by omega) rfl ?_).symm
  intro i _ h
  obtain rfl : i = 0 := by omega
  rfl

@[simp] theorem firstBytes_two (b : Buf) : firstBytes 2 b = [b[0], b[1]] := by
  refine (eq_firstBytes (n := 2) (p := [b[0], b[1]]) (by omega) rfl ?_).symm
  intro i _ h
  rcases (by omega : i = 0 ∨ i = 1) with rfl | rfl <;> rfl

@[simp] theorem mergeBytes_getElem (n : Nat) (new old : Buf) (i : Nat) (h : i < 8) :
    (mergeBytes n new old)[i] = if i < n then new[i] else old[i] := by simp [mergeBytes]

theorem hostTarget_offset (c : Config) (off width : Nat) (h : off < 32) :
    hostTarget c (c.hostBase + off) width =
      if width ≠ 32 ∨ off % 4 ≠ 0 then .refused else .reg (hostRegAt off) := by
  have : ¬ (c.hostBase + off < c.hostBase ∨ c.hostBase + 32 ≤ c.hostBase + off) := by omega
  rw [hostTarget, if_neg this, Nat.add_sub_cancel_left]

-- Levels and checks

theorem classify_ne_none (v : BitVec 16) : classify v ≠ .none := by
  unfold classify; split <;> [skip; split] <;> simp

/-- The acceptance checks report OK, STATE, BAD_REG, BAD_LEN or BAD_VALUE. -/
theorem acceptance_cases (op : Op) (r : SensorReg) (len : Nat) (s : State) :
    acceptance op r len s = .ok ∨ acceptance op r len s = .state ∨ acceptance op r len s = .badReg ∨
      acceptance op r len s = .badLen ∨ acceptance op r len s = .badValue := by
  unfold acceptance
  split
  · simp
  · split
    · simp
    · split
      · simp
      · split <;> simp

/-- A command passes its checks exactly when each passes (R184). -/
theorem acceptance_eq_ok_iff (op : Op) (r : SensorReg) (len : Nat) (s : State) :
    acceptance op r len s = .ok ↔
      stateAllows op s = true ∧ regAllows op r s = true ∧ lenAllows op r len s = true ∧ valueAllows op r s = true := by
  unfold acceptance
  cases stateAllows op s <;> cases regAllows op r s <;> cases lenAllows op r len s <;> cases valueAllows op r s <;>
    simp

/-- Everything the submission of a decoded command can do (R184). -/
theorem State.submit_cases (s : State) (op : Op) (r : SensorReg) (len : Nat) (accept : State → State) :
    (s.busy = true ∧ s.submit op r len accept = s) ∨
    (s.busy = false ∧ acceptance op r len s = .ok ∧ s.submit op r len accept = accept s) ∨
    (s.busy = false ∧ acceptance op r len s ≠ .ok ∧ acceptance op r len s ≠ .busFail ∧
      acceptance op r len s ≠ .illegal ∧ s.submit op r len accept = s.raise (acceptance op r len s)) := by
  unfold State.submit
  cases hb : s.busy with
  | true => simp
  | false =>
    rcases acceptance_cases op r len s with h | h | h | h | h <;> simp [h]

/-- The submission in one equation: the checks' verdict goes to ERR unless it is OK (R184). -/
theorem State.submit_eq (s : State) (op : Op) (r : SensorReg) (len : Nat) (accept : State → State) :
    s.submit op r len accept =
      if s.busy then s else if acceptance op r len s = .ok then accept s else s.raise (acceptance op r len s) := by
  unfold State.submit
  rcases acceptance_cases op r len s with h | h | h | h | h <;> simp [h]

@[simp] theorem State.submit_busy (s : State) (op : Op) (r : SensorReg) (len : Nat) (accept : State → State)
    (h : s.busy = true) : s.submit op r len accept = s := by simp [State.submit, h]

theorem State.submit_accepted (s : State) (op : Op) (r : SensorReg) (len : Nat) (accept : State → State)
    (h : s.busy = false) (ha : acceptance op r len s = .ok) : s.submit op r len accept = accept s := by
  simp [State.submit, h, ha]

theorem State.submit_rejected (s : State) (op : Op) (r : SensorReg) (len : Nat) (accept : State → State)
    (h : s.busy = false) (ha : acceptance op r len s ≠ .ok) :
    s.submit op r len accept = s.raise (acceptance op r len s) := by
  rcases s.submit_cases op r len accept with h' | h' | h'
  · simp [h] at h'
  · exact absurd h'.2.1 ha
  · exact h'.2.2.2.2

-- Transactions and boot

/-- A boot transaction ends in the row's effect or in boot failure (R233). -/
theorem bootEnd_cases (t : BusAnswer × State) (onOk : Byte → State → State) :
    (∃ b : Buf, t.1 = .ok b ∧ bootEnd t onOk = onOk b[0] t.2) ∨ (t.1 = .fail ∧ bootEnd t onOk = t.2.bootFailure) := by
  unfold bootEnd
  cases h : t.1 with
  | ok b => exact .inl ⟨b, rfl, rfl⟩
  | fail => exact .inr ⟨rfl, rfl⟩

theorem bootEnd_ok {t : BusAnswer × State} {b : Buf} (onOk : Byte → State → State) (h : t.1 = .ok b) :
    bootEnd t onOk = onOk b[0] t.2 := by simp [bootEnd, h]

theorem bootEnd_fail {t : BusAnswer × State} (onOk : Byte → State → State) (h : t.1 = .fail) :
    bootEnd t onOk = t.2.bootFailure := by simp [bootEnd, h]

/-- The event of a transaction the bus answers with OK. -/
theorem State.txEvent_ok (s : State) (k : TxKind) (w : List Byte) (m : Nat) (b : Buf) (h : s.nextAnswer = .ok b) :
    s.txEvent k w m = .tx k s.cfg.devAddr w m (.ok (firstBytes m b)) := by simp [State.txEvent, txOutcome, h]

/-- The event of a transaction the bus answers with FAIL. -/
theorem State.txEvent_fail (s : State) (k : TxKind) (w : List Byte) (m : Nat) (h : s.nextAnswer = .fail) :
    s.txEvent k w m = .tx k s.cfg.devAddr w m .fail := by simp [State.txEvent, txOutcome, h]

/-- A runtime read moves neither the sequencer's phase nor the RST level (R275). -/
theorem State.readResult_frame (s : State) : s.readResult.phase = s.phase ∧ s.readResult.rst = s.rst := by
  unfold State.readResult State.txWriteRead
  cases s.nextAnswer <;> exact ⟨rfl, rfl⟩

theorem State.resetElements_idem (s : State) : s.resetElements.resetElements = s.resetElements := rfl

end Sys2Proof.Machine
end

