-- ==== Sys2Proof/Laws/PerInstr.lean ====
section
/-! SUPPORT. Statements made for every instruction, one lemma per constructor of Instr. -/

namespace Sys2Proof.Laws.OpcodeField

/-- The word of a command carries its opcode in OP, 0 in RSV, and 0 in IMM unless it is CLASSIFY (R121, R126); an
operation with no opcode has no word (R128). -/
def Statement (i : Instr) : Prop :=
  (i.op? = none → encode i = none) ∧
  ∀ w, encode i = some w → i.op?.map Op.code = some (fieldOp w) ∧ fieldRsv w = 0 ∧
    (i.op? ≠ some .classify → fieldImm w = 0)

/-- A command whose word is assembled from these fields meets the statement. -/
theorem of_assemble {i : Instr} {imm : BitVec 16} {op : Op} {len : Nat} {reg : BitVec 4} (ho : i.op? = some op)
    (he : encode i = some (assemble imm op len reg)) (hi : op ≠ .classify → imm = 0) : Statement i := by
  refine ⟨fun h => by simp [ho] at h, fun w hw => ?_⟩
  cases he.symm.trans hw
  refine ⟨by simp [ho], by simp, fun hn => ?_⟩
  rw [fieldImm_assemble]
  exact hi fun hc => hn (by rw [ho, hc])

/-- An internal step meets the statement. -/
theorem of_internal {i : Instr} (he : encode i = none) : Statement i :=
  ⟨fun _ => he, fun w hw => by simp [he] at hw⟩

theorem nop : Statement (Instr.nop) := of_assemble rfl rfl (fun _ => rfl)
theorem wrcmd (reg : SensorReg) (len : Nat) : Statement (Instr.wrcmd reg len) := of_assemble rfl rfl (fun _ => rfl)
theorem wrreg (reg : SensorReg) (len : Nat) : Statement (Instr.wrreg reg len) := of_assemble rfl rfl (fun _ => rfl)
theorem wrmbox (reg : SensorReg) (len : Nat) : Statement (Instr.wrmbox reg len) := of_assemble rfl rfl (fun _ => rfl)
theorem rdmbox (reg : SensorReg) (len : Nat) : Statement (Instr.rdmbox reg len) := of_assemble rfl rfl (fun _ => rfl)
theorem boot : Statement (Instr.boot) := of_assemble rfl rfl (fun _ => rfl)
theorem classify (imm : BitVec 16) : Statement (Instr.classify imm) := of_assemble rfl rfl (fun h => absurd rfl h)
theorem bootTx : Statement Instr.bootTx := of_internal rfl
theorem bootT1Hwid : Statement Instr.bootT1Hwid := of_internal rfl
theorem bootT2Status : Statement Instr.bootT2Status := of_internal rfl
theorem bootT3FwVerify : Statement Instr.bootT3FwVerify := of_internal rfl
theorem bootT4AppStart : Statement Instr.bootT4AppStart := of_internal rfl
theorem bootT5MeasMode : Statement Instr.bootT5MeasMode := of_internal rfl
theorem bootT6ErrId : Statement Instr.bootT6ErrId := of_internal rfl
theorem bootT7ModeEcho : Statement Instr.bootT7ModeEcho := of_internal rfl
theorem bootFail : Statement Instr.bootFail := of_internal rfl
theorem bootDelay : Statement Instr.bootDelay := of_internal rfl
theorem tick : Statement Instr.tick := of_internal rfl
theorem cmdStep : Statement Instr.cmdStep := of_internal rfl
theorem evtCapture : Statement Instr.evtCapture := of_internal rfl
theorem evtDeliver : Statement Instr.evtDeliver := of_internal rfl
theorem loopWake : Statement Instr.loopWake := of_internal rfl
theorem loopCheck : Statement Instr.loopCheck := of_internal rfl
theorem loopRearm : Statement Instr.loopRearm := of_internal rfl
theorem reset : Statement Instr.reset := of_internal rfl

end Sys2Proof.Laws.OpcodeField
end

