-- ==== Sys2Proof/Laws/Step.lean ====
section
/-! SUPPORT. What a step can do, said once: every operation completes, and Effect lists all that a turn can change. -/

namespace Sys2Proof.Machine

/-- Every operation of the block answers a next state, in every state (R339 (b)). -/
theorem exec_completes (i : Instr) (s : State) : ∃ t, exec i s = .next t := by
  cases i <;> exact ⟨_, rfl⟩

/-- Everything a turn can do to the state, one case per effect of the rules. -/
inductive Effect : Turn → State → State → Prop where
  /-- Nothing: a step that is not enabled, a write that is ignored, an access outside the window. -/
  | none (t : Turn) (s : State) : Effect t s s
  /-- A host read returns a word (R83). -/
  | read (addr width : Nat) (v : Word) (s : State) : Effect (.hostRead addr width) s { s with hostOut := some v }
  /-- A host write changes DATA (R84). -/
  | data (addr width : Nat) (v : Word) (d : Buf) (s : State) : Effect (.hostWrite addr width v) s { s with data := d }
  /-- A CMD write sets ERR alone: NOP, or a rejection (R15, R191). -/
  | err (addr width : Nat) (v : Word) (e : Err) (s : State) : s.busy = false →
      Effect (.hostWrite addr width v) s (s.raise e)
  /-- CLASSIFY (R312). -/
  | classify (addr width : Nat) (v : Word) (l : Level) (s : State) : s.busy = false →
      Effect (.hostWrite addr width v) s { s with cres := l, err := .ok }
  /-- A bus command is accepted (R184). -/
  | acceptBus (addr width : Nat) (v : Word) (op : Op) (r : SensorReg) (len : Nat) (s : State) : s.busy = false →
      isBusOp op = true → acceptance op r len s = .ok → Effect (.hostWrite addr width v) s (s.acceptBus op r len)
  /-- BOOT is accepted (R231). -/
  | acceptBoot (addr width : Nat) (v : Word) (s : State) : s.busy = false → hostOwnsBus s = true →
      Effect (.hostWrite addr width v) s s.acceptBoot
  /-- The command step (R190). -/
  | command (k : TxKind) (w : List Byte) (m : Nat) (d : Buf) (s : State) : s.cmdWaiting = true →
      isBusOp s.lcmd.op = true → w.head? = some (regAddr s.cfg s.lcmd.reg) → w.length ≤ 9 → m = 0 ∨ m = s.lcmd.len →
      Effect .sequencer s ({ s.afterTx k w m with data := d }.cmdDone s.nextAnswer)
  /-- One of the boot transactions T1 to T6 succeeds (R233). -/
  | bootNext (n : Nat) (x : TxShape) (hw ds er : Byte) (b : Buf) (ms : Nat) (s : State) : s.phase = .boot → n < 6 →
      s.bstep.toNat = 2 * n → (bootShapes s.cfg)[n]? = some x → s.nextAnswer = .ok b → ms ≤ maxDelay s.cfg →
      Effect .sequencer s
        ({ s.afterTx x.kind x.sent x.readCount with hwid := hw, dstat := ds, errid := er }.bootAdvance ms)
  /-- T7 succeeds (R240). -/
  | bootDone (x : TxShape) (b : Buf) (s : State) : s.phase = .boot → s.bstep = 12 →
      (bootShapes s.cfg)[6]? = some x → s.nextAnswer = .ok b →
      Effect .sequencer s ((s.afterTx x.kind x.sent x.readCount).bootComplete b[0])
  /-- A boot transaction fails (R241). -/
  | bootFail (n : Nat) (x : TxShape) (s : State) : s.phase = .boot → n ≤ 6 → s.bstep.toNat = 2 * n →
      (bootShapes s.cfg)[n]? = some x → s.nextAnswer = .fail →
      Effect .sequencer s (s.afterTx x.kind x.sent x.readCount).bootFailure
  /-- The delay step (R242). -/
  | bootDelay (s : State) : s.phase = .boot → s.bstep.toNat % 2 = 1 → s.dcnt = 0 →
      Effect .sequencer s { s with bstep := s.bstep + 1 }
  /-- A tick (R243). -/
  | tick (s : State) : 0 < s.dcnt → Effect .tick s { s with dcnt := s.dcnt - 1 }
  /-- An EVT pulse (R271). -/
  | evt (s : State) : Effect .evt s { s with pend := true }
  /-- A delivery (R272). -/
  | deliver (s : State) : s.ie = true → s.pend = true → Effect .deliver s { s with pend := false, drdy := true }
  /-- The wake step (R274). -/
  | wake (s : State) : s.phase = .armed → Effect .sequencer s { s with ie := false, phase := .service, sstep := .check }
  /-- A check step whose read succeeds (R275). -/
  | checkOk (b : Buf) (s : State) : s.phase = .service → s.sstep = .check → s.drdy = true → s.nextAnswer = .ok b →
      Effect .sequencer s { ({ s.afterTx .wr [regAddr s.cfg .algResultData] 2 with drdy := false }.newReading b[0] b[1])
        with sstep := .rearm }
  /-- A check step whose read fails (R275). -/
  | checkFail (s : State) : s.phase = .service → s.sstep = .check → s.drdy = true → s.nextAnswer = .fail →
      Effect .sequencer s { s.afterTx .wr [regAddr s.cfg .algResultData] 2 with drdy := false, sstep := .rearm }
  /-- A check step after a spurious wake (R275). -/
  | checkIdle (s : State) : s.phase = .service → s.sstep = .check → s.drdy = false →
      Effect .sequencer s { s with sstep := .rearm }
  /-- The re-arm step (R276). -/
  | rearm (s : State) : s.phase = .service → s.sstep = .rearm →
      Effect .sequencer s { s with ie := true, phase := .armed, sstep := .check }
  /-- RST is asserted (R370). -/
  | assertRst (s : State) : Effect (.rst true) s { s.resetElements with rst := true }
  /-- RST is released (R370). -/
  | releaseRst (s : State) : Effect (.rst false) s { s with rst := false }

/-- The command step has the effect of R190. -/
theorem execCmdStep_effect {s t : State} (h : execCmdStep s = .next t) : Effect .sequencer s t := by
  unfold execCmdStep at h
  cases hw : s.cmdWaiting with
  | false => simp [hw] at h; subst h; exact .none _ _
  | true =>
    simp only [hw, if_true] at h
    cases ho : s.lcmd.op <;> simp only [ho] at h <;> cases h
    · exact .none _ _
    · exact .command .w [regAddr s.cfg s.lcmd.reg] 0 s.data s hw (by simp [ho, isBusOp]) rfl (by simp) (.inl rfl)
    · exact .command .w [regAddr s.cfg s.lcmd.reg, s.ldata[0]] 0 s.data s hw (by simp [ho, isBusOp]) rfl (by simp)
        (.inl rfl)
    · exact .command .w (regAddr s.cfg s.lcmd.reg :: firstBytes s.lcmd.len s.ldata) 0 s.data s hw
        (by simp [ho, isBusOp]) rfl (by simp [firstBytes]) (.inl rfl)
    · have e : s.stepRdmbox = ({ s.afterTx .wr [regAddr s.cfg s.lcmd.reg] s.lcmd.len with
          data := match s.nextAnswer with
            | .ok b => mergeBytes s.lcmd.len b s.data
            | .fail => s.data }).cmdDone s.nextAnswer := by
        unfold State.stepRdmbox State.txWriteRead
        cases s.nextAnswer <;> rfl
      rw [e]
      exact .command .wr _ s.lcmd.len _ s hw (by simp [ho, isBusOp]) rfl (by simp) (.inr rfl)
    · exact .none _ _
    · exact .none _ _

/-- A boot transaction step has the effect of R233, R240 or R241. -/
theorem execBootTx_effect {s t : State} (h : execBootTx s = .next t) : Effect .sequencer s t := by
  unfold execBootTx at h
  by_cases hp : s.phase = .boot
  · rw [if_pos hp] at h
    have ms1 : s.cfg.dHwid ≤ maxDelay s.cfg := by unfold maxDelay; omega
    have ms2 : s.cfg.dStatus ≤ maxDelay s.cfg := by unfold maxDelay; omega
    have ms3 : s.cfg.dVerify ≤ maxDelay s.cfg := by unfold maxDelay; omega
    have ms4 : s.cfg.dAppstart ≤ maxDelay s.cfg := by unfold maxDelay; omega
    have ms5 : s.cfg.dMode ≤ maxDelay s.cfg := by unfold maxDelay; omega
    have ms6 : s.cfg.dErrid ≤ maxDelay s.cfg := by unfold maxDelay; omega
    split at h <;> rename_i hb <;> cases h
    · cases ha : s.nextAnswer with
      | ok b => simpa [State.bootT1, bootEnd, State.txWriteRead, ha] using
          Effect.bootNext 0 _ b[0] s.dstat s.errid b s.cfg.dHwid s hp (by omega) hb rfl ha ms1
      | fail => simpa [State.bootT1, bootEnd, State.txWriteRead, ha] using
          Effect.bootFail 0 _ s hp (by omega) hb rfl ha
    · cases ha : s.nextAnswer with
      | ok b => simpa [State.bootT2, bootEnd, State.txWriteRead, ha] using
          Effect.bootNext 1 _ s.hwid b[0] s.errid b s.cfg.dStatus s hp (by omega) hb rfl ha ms2
      | fail => simpa [State.bootT2, bootEnd, State.txWriteRead, ha] using
          Effect.bootFail 1 _ s hp (by omega) hb rfl ha
    · cases ha : s.nextAnswer with
      | ok b =>
        simp only [State.bootT3, bootEnd, State.txWriteOnly, ha]
        exact Effect.bootNext 2 _ s.hwid s.dstat s.errid b s.cfg.dVerify s hp (by omega) hb rfl ha ms3
      | fail => simpa [State.bootT3, bootEnd, State.txWriteOnly, ha] using
          Effect.bootFail 2 _ s hp (by omega) hb rfl ha
    · cases ha : s.nextAnswer with
      | ok b =>
        simp only [State.bootT4, bootEnd, State.txWriteOnly, ha]
        exact Effect.bootNext 3 _ s.hwid s.dstat s.errid b s.cfg.dAppstart s hp (by omega) hb rfl ha ms4
      | fail => simpa [State.bootT4, bootEnd, State.txWriteOnly, ha] using
          Effect.bootFail 3 _ s hp (by omega) hb rfl ha
    · cases ha : s.nextAnswer with
      | ok b =>
        simp only [State.bootT5, bootEnd, State.txWriteWrite, ha]
        exact Effect.bootNext 4 _ s.hwid s.dstat s.errid b s.cfg.dMode s hp (by omega) hb rfl ha ms5
      | fail => simpa [State.bootT5, bootEnd, State.txWriteWrite, ha] using
          Effect.bootFail 4 _ s hp (by omega) hb rfl ha
    · cases ha : s.nextAnswer with
      | ok b => simpa [State.bootT6, bootEnd, State.txWriteRead, ha] using
          Effect.bootNext 5 _ s.hwid s.dstat b[0] b s.cfg.dErrid s hp (by omega) hb rfl ha ms6
      | fail => simpa [State.bootT6, bootEnd, State.txWriteRead, ha] using
          Effect.bootFail 5 _ s hp (by omega) hb rfl ha
    · cases ha : s.nextAnswer with
      | ok b => simpa [State.bootT7, bootEnd, State.txWriteRead, ha] using
          Effect.bootDone _ b s hp (BitVec.eq_of_toNat_eq hb) rfl ha
      | fail => simpa [State.bootT7, bootEnd, State.txWriteRead, ha] using
          Effect.bootFail 6 _ s hp (by omega) hb rfl ha
    · exact .none _ _
  · rw [if_neg hp] at h
    cases h
    exact .none _ _

/-- A Sequencer turn has one of the Sequencer's effects. -/
theorem sequencer_effect {s t : State} (h : runTurn .sequencer s = .next t) : Effect .sequencer s t := by
  simp only [runTurn] at h
  split at h
  · rename_i i hi
    unfold sequencerInstr at hi
    split at hi
    · split at hi <;> cases hi; exact execCmdStep_effect h
    · split at hi <;> cases hi; exact execCmdStep_effect h
    · split at hi
      · cases hi; exact execBootTx_effect h
      · split at hi <;> cases hi
        simp only [exec, execBootDelay] at h
        split at h <;> cases h
        · rename_i hc; exact .bootDelay s hc.1 hc.2.1 hc.2.2
        · exact .none _ _
    · rename_i hp
      cases hi
      simp only [exec, execLoopWake, if_pos hp] at h
      cases h
      exact .wake s hp
    · split at hi <;> cases hi
      · simp only [exec, execLoopCheck] at h
        split at h <;> cases h
        · rename_i hc
          cases hd : s.drdy with
          | false => simpa using Effect.checkIdle s hc.1 hc.2 hd
          | true =>
            cases ha : s.nextAnswer with
            | ok b => simpa [State.readResult, State.txWriteRead, ha, algLen] using Effect.checkOk b s hc.1 hc.2 hd ha
            | fail => simpa [State.readResult, State.txWriteRead, ha, algLen] using Effect.checkFail s hc.1 hc.2 hd ha
        · exact .none _ _
      · simp only [exec, execLoopRearm] at h
        split at h <;> cases h
        · rename_i hc; exact .rearm s hc.1 hc.2
        · exact .none _ _
  · cases h; exact .none _ _

/-- A submitted command is ignored, rejected with ERR alone, or accepted (R184). -/
theorem submit_effect {addr width : Nat} {v : Word} {s t : State} {op : Op} {r : SensorReg} {len : Nat}
    {accept : State → State} (h : Host.Outcome.next (s.submit op r len accept) = (.next t : Host.Outcome State Fault Refusal))
    (ha : s.busy = false → acceptance op r len s = .ok → Effect (.hostWrite addr width v) s (accept s)) :
    Effect (.hostWrite addr width v) s t := by
  cases h
  rcases s.submit_cases op r len accept with ⟨_, e⟩ | ⟨hb, hok, e⟩ | ⟨hb, _, _, _, e⟩ <;> rw [e]
  · exact .none _ _
  · exact ha hb hok
  · exact .err addr width v _ s hb

/-- A word written to CMD has the effect of R184. -/
theorem submitWord_effect {addr width : Nat} {v w : Word} {s t : State} (h : submitWord w s = .next t) :
    Effect (.hostWrite addr width v) s t := by
  unfold submitWord at h
  split at h
  · rename_i i hd
    have hc := decode_isCommand hd
    cases i <;> try cases hc
    · exact submit_effect h fun hb _ => .err addr width v .ok s hb
    · exact submit_effect h fun hb ha => .acceptBus addr width v _ _ _ s hb rfl ha
    · exact submit_effect h fun hb ha => .acceptBus addr width v _ _ _ s hb rfl ha
    · exact submit_effect h fun hb ha => .acceptBus addr width v _ _ _ s hb rfl ha
    · exact submit_effect h fun hb ha => .acceptBus addr width v _ _ _ s hb rfl ha
    · exact submit_effect h fun hb ha => .acceptBoot addr width v s hb ((acceptance_eq_ok_iff _ _ _ _).1 ha).1
    · exact submit_effect h fun hb _ => .classify addr width v _ s hb
  · cases h
    unfold State.submitIllegal
    split
    · exact .none _ _
    · rename_i hb; exact .err addr width v _ s (by simpa using hb)

/-- Everything a turn can do while RST is released. -/
theorem runTurn_effect {turn : Turn} {s t : State} (h : runTurn turn s = .next t) : Effect turn s t := by
  cases turn with
  | hostRead addr width =>
    simp only [runTurn, hostRead] at h
    split at h <;> cases h
    · exact .none _ _
    · exact .read addr width _ s
  | hostWrite addr width v =>
    simp only [runTurn, hostWrite] at h
    split at h
    · cases h; exact .none _ _
    · cases h
    · exact submitWord_effect h
    · rename_i r _ _
      cases h
      cases r
      · exact .none _ _
      · exact .none _ _
      · exact .data addr width v _ s
      · exact .data addr width v _ s
      · exact .none _ _
      · exact .none _ _
      · exact .none _ _
      · exact .none _ _
  | sequencer => exact sequencer_effect h
  | evt => cases h; exact .evt s
  | deliver =>
    simp only [runTurn, exec, execEvtDeliver] at h
    split at h <;> cases h
    · rename_i hc
      simp only [Bool.and_eq_true] at hc
      exact .deliver s hc.1 hc.2
    · exact .none _ _
  | tick =>
    simp only [runTurn, exec, execTick] at h
    split at h <;> cases h
    · rename_i hc; exact .tick s hc
    · exact .none _ _
  | rst level =>
    cases level <;> cases h
    · exact .releaseRst s
    · exact .assertRst s

/-- A turn while RST is asserted has no effect, unless it is RST's own (R370). -/
theorem takeTurn_held {turn : Turn} {s : State} (hr : s.rst = true) (ht : ∀ level, turn ≠ .rst level) :
    takeTurn turn s = .next s := by
  cases turn <;> simp_all [takeTurn]

/-- A turn while RST is released, or one of RST's own, runs. -/
theorem takeTurn_run {turn : Turn} {s : State} (h : s.rst = false ∨ ∃ level, turn = .rst level) :
    takeTurn turn s = runTurn turn s := by
  rcases h with h | ⟨level, rfl⟩
  · cases turn <;> simp [takeTurn, h]
  · cases hr : s.rst <;> simp [takeTurn]

/-- Everything a step can do: nothing but the turn while RST is asserted, or its turn's effect. -/
theorem step_effect {s t : State} (h : step s = .next t) :
    (s.rst = true ∧ t = s.beginTurn) ∨
    ((s.rst = false ∨ ∃ level, s.nextTurn = .rst level) ∧ Effect s.nextTurn s.beginTurn t) := by
  unfold step at h
  by_cases hr : s.rst = false ∨ ∃ level, s.nextTurn = .rst level
  · rw [takeTurn_run (by simpa using hr)] at h
    exact .inr ⟨hr, runTurn_effect h⟩
  · simp only [not_or, not_exists, Bool.not_eq_false] at hr
    rw [takeTurn_held (by simpa using hr.1) hr.2] at h
    cases h
    exact .inl ⟨hr.1, rfl⟩

/-- The state a turn starts from, the agenda apart. -/
def State.turnTaken (s : State) : State :=
  { s with turnIdx := s.turnIdx + 1, levelStb := false, hostOut := Option.none }

/-- A step with a given turn takes that turn. -/
theorem stepWith_eq (turn : Turn) (s : State) : stepWith turn s = takeTurn turn s.turnTaken := rfl

/-- A step with a given turn runs it, RST being released. -/
theorem stepWith_released (turn : Turn) {s : State} (h : s.rst = false) : stepWith turn s = runTurn turn s.turnTaken :=
  takeTurn_run (s := s.turnTaken) (.inl h)

/-- Everything a step with a given turn can do, RST being released. -/
theorem stepWith_effect {turn : Turn} {s t : State} (hr : s.rst = false) (h : stepWith turn s = .next t) :
    Effect turn s.turnTaken t := runTurn_effect ((stepWith_released turn hr).symm.trans h)

/-- A turn that is no host access completes. -/
theorem stepWith_completes (turn : Turn) (s : State) (hr : ∀ a w, turn ≠ .hostRead a w)
    (hw : ∀ a w v, turn ≠ .hostWrite a w v) : ∃ t, stepWith turn s = .next t := by
  rw [stepWith_eq]
  generalize s.turnTaken = s1
  by_cases h : s1.rst = false ∨ ∃ level, turn = .rst level
  · rw [takeTurn_run h]
    cases turn with
    | hostRead a w => exact absurd rfl (hr a w)
    | hostWrite a w v => exact absurd rfl (hw a w v)
    | sequencer =>
      simp only [runTurn]
      split
      · exact exec_completes _ _
      · exact ⟨_, rfl⟩
    | evt => exact exec_completes .evtCapture s1
    | deliver => exact exec_completes .evtDeliver s1
    | tick => exact exec_completes .tick s1
    | rst level => cases level <;> exact ⟨_, rfl⟩
  · simp only [not_or, not_exists, Bool.not_eq_false] at h
    exact ⟨_, takeTurn_held h.1 h.2⟩

end Sys2Proof.Machine
end

