-- ==== Sys2Proof/Machine/Wire.lean ====
section
/-! DEFINITION. The wire framing of a transaction (40_transport.md R160), informative in the spec: a function of the
history's events that no step reads (log 16). -/

namespace Sys2Proof.Machine

/-- What the framing of R160 is made of: START, repeated START, STOP, a byte, acknowledge, not-acknowledge. -/
inductive WireSymbol where
  | start
  | repeatedStart
  | stop
  | byte (b : Byte)
  | ack
  | nack
  deriving DecidableEq, Repr

/-- The address byte `{DEV_ADDR, rw}`, rw = 0 for a write and 1 for a read (R160). -/
def addressByte (a : BitVec 7) (read : Bool) : Byte := a ++ BitVec.ofBool read

/-- Bytes sent, each acknowledged (R160). -/
def framedSent : List Byte → List WireSymbol
  | [] => []
  | b :: bs => .byte b :: .ack :: framedSent bs

/-- Bytes read: the master acknowledges every byte but the last (R160, D22). -/
def framedRead : List Byte → List WireSymbol
  | [] => []
  | [b] => [.byte b, .nack]
  | b :: bs => .byte b :: .ack :: framedRead bs

/-- The frame of an event that is a successful transaction (R160). The wire of a failed one is not in the spec. -/
def wireFrame : Event → Option (List WireSymbol)
  | .tx .w a sent _ (.ok _) => some (.start :: .byte (addressByte a false) :: .ack :: framedSent sent ++ [.stop])
  | .tx .wr a sent _ (.ok bytes) =>
    some (.start :: .byte (addressByte a false) :: .ack :: framedSent sent ++
      (.repeatedStart :: .byte (addressByte a true) :: .ack :: framedRead bytes) ++ [.stop])
  | .tx _ _ _ _ .fail => none
  | .setLevel _ => none

end Sys2Proof.Machine
end

