-- ==== Sys2Proof/Tests/Slice0.lean ====
section
/-! SUPPORT. The model's own tests: well-formedness, words written out from the spec's encodings, and single steps with the
expected results of spec/95_test_vectors.md (each named by its V number). -/

namespace Sys2Proof.Tests
open Sys2Proof.Machine

/-- The outcome is a next state with this property. -/
def nextHas (o : Host.Outcome State Fault Refusal) (p : State → Bool) : Bool :=
  match o with
  | .next t => p t
  | .fault _ => false
  | .refused _ => false

/-- The end state of V30: armed, its answers to come. -/
def armed (answers : List BusAnswer) : State :=
  { State.reset with phase := .armed, booted := true, ie := true, busQueue := answers }

/-- Servicing with DRDY set, before the check step. -/
def servicing (answers : List BusAnswer) : State :=
  { armed answers with phase := .service, ie := false, drdy := true }

/-- A boot at this cursor. -/
def booting (bstep : BitVec 4) (dcnt : Nat) (answers : List BusAnswer) : State :=
  { State.reset with phase := .boot, busy := true, bstep := bstep, dcnt := dcnt, busQueue := answers }

/-- A bus command waiting for the command step. -/
def waiting (op : Op) (r : SensorReg) (len : Nat) (ldata data : Buf) (answers : List BusAnswer) : State :=
  { State.reset with busy := true, lcmd := ⟨op, r, len⟩, ldata := ldata, data := data, busQueue := answers }

/-- An OK answer whose first two bytes are these. -/
def okBytes (b0 b1 : Byte) : BusAnswer := .ok #v[b0, b1, 0, 0, 0, 0, 0, 0]

/-- The buffer of V84: 0x03, 0x84, 0x04, 0xB0. -/
def thresholdBytes : Buf := #v[0x03, 0x84, 0x04, 0xB0, 0, 0, 0, 0]

/-- DATA0 = 0x11223344. -/
def data11223344 : Buf := #v[0x44, 0x33, 0x22, 0x11, 0, 0, 0, 0]

-- Well-formedness: LEN must fit four bits (R121, R123)

theorem test_wf_wrcmd_len_16 : (Instr.wrcmd .fwVerify 16).wf = false := by decide
theorem test_wf_wrreg_len_16 : (Instr.wrreg .measMode 16).wf = false := by decide
theorem test_wf_wrmbox_len_16 : (Instr.wrmbox .thresholds 16).wf = false := by decide
theorem test_wf_rdmbox_len_16 : (Instr.rdmbox .hwId 16).wf = false := by decide
theorem test_wf_rdmbox_len_15 : (Instr.rdmbox .hwId 15).wf = true := by decide
theorem test_default_parameters_wf : Config.default.wf = true := by decide
theorem test_parameter_width_9_refused :
    { Config.default with regWidth := Config.default.regWidth.set 3 9 }.wf = false := by decide
theorem test_parameter_short_appstart_refused : { Config.default with dAppstart := 999 }.wf = false := by decide
theorem test_parameter_long_delay_refused :
    { Config.default with dMode := 1001 }.wf = false ∧ { Config.default with dMode := 1000 }.wf = true := by decide
theorem test_parameter_bus_clock_refused : { Config.default with fScl := some 400001 }.wf = false := by decide

-- Words written out bit by bit from R121 and R126: IMM OP LEN RSV REG

theorem test_decode_nop : decodeTableWord 32 0b0000000000000000_0000_0000_0000_0000 = some .nop := by decide
theorem test_decode_wrcmd :
    decodeTableWord 32 0b0000000000000000_0001_0000_0000_1110 = some (.wrcmd .appStart 0) := by decide
theorem test_decode_wrreg :
    decodeTableWord 32 0b0000000000000000_0010_0001_0000_0001 = some (.wrreg .measMode 1) := by decide
theorem test_decode_wrmbox :
    decodeTableWord 32 0b0000000000000000_0011_0100_0000_0101 = some (.wrmbox .thresholds 4) := by decide
theorem test_decode_rdmbox :
    decodeTableWord 32 0b0000000000000000_0100_0010_0000_1001 = some (.rdmbox .fwAppVersion 2) := by decide
theorem test_decode_boot : decodeTableWord 32 0b0000000000000000_0101_0000_0000_0000 = some .boot := by decide
theorem test_decode_classify :
    decodeTableWord 32 0b0000010010110001_0110_0000_0000_0000 = some (.classify 1201) := by decide
theorem test_decode_short_word : decodeTableWord 16 0b0011_0100_0000_0101 = some (.wrmbox .thresholds 4) := by decide
theorem test_encode_classify_900 : encode (.classify 900) = some 0x03846000#32 := by decide
theorem test_encode_rdmbox_error_id : encode (.rdmbox .errorId 1) = some 0x0000410A#32 := by decide
theorem test_internal_steps_have_no_word : encode .loopCheck = none ∧ encode .bootT5MeasMode = none := by decide

/-- V51 to V60: illegal words and why. -/
theorem test_illegal_words :
    [0x00000001#32, 0x00000100#32, 0x00007000#32, 0x0000F000#32, 0x0000101D#32, 0x0001100D#32, 0x00005100#32,
      0x00005001#32, 0x00006001#32, 0x03846010#32].all (fun w => (decodeTableWord 32 w.toNat).isNone) = true := by
  decide

/-- The default register table, from the rows of R181. -/
theorem test_register_table :
    ([.status, .measMode, .algResultData, .rawData, .envData, .thresholds, .hwId, .hwVersion, .fwBootVersion,
      .fwAppVersion, .errorId, .fwErase, .fwProgram, .fwVerify, .appStart, .swReset].map (fun r =>
        (regAddr Config.default r, regDir Config.default r))) =
      [(0x00, .r), (0x01, .rw), (0x02, .r), (0x03, .r), (0x05, .w), (0x10, .w), (0x20, .r), (0x21, .r), (0x23, .r),
       (0x24, .r), (0xE0, .r), (0xF1, .w), (0xF2, .w), (0xF3, .c), (0xF4, .c), (0xFF, .w)] := by decide

-- Host accesses

/-- V20. -/
theorem test_status_at_reset :
    nextHas (runTurn (.hostRead 0x04 32) State.reset) (fun t => t.hostOut == some 0x00000000#32) = true := by decide
theorem test_result_at_reset :
    nextHas (runTurn (.hostRead 0x10 32) State.reset) (fun t => t.hostOut == some 0x00030000#32) = true := by decide
/-- V21. -/
theorem test_data0_lanes :
    nextHas (runTurn (.hostWrite 0x08 32 0x11223344) State.reset) (fun t => t.data == data11223344) = true := by decide
/-- V22. -/
theorem test_data1_lanes :
    nextHas (runTurn (.hostWrite 0x0C 32 0xA1B2C3D4) State.reset)
      (fun t => t.data[4] == 0xD4 && t.data[7] == 0xA1 && t.data[0] == 0) = true := by decide
/-- V24. -/
theorem test_status_is_read_only :
    nextHas (runTurn (.hostWrite 0x04 32 0xFFFFFFFF) State.reset) (fun t => decide (t = State.reset)) = true := by decide
/-- V26. -/
theorem test_misaligned_read_refused : nextHas (runTurn (.hostRead 0x02 32) State.reset) (fun _ => true) = false := by
  decide
theorem test_halfword_write_refused :
    nextHas (runTurn (.hostWrite 0x08 16 0) State.reset) (fun _ => true) = false := by decide
/-- R81: the window ends at 0x20. -/
theorem test_outside_the_window :
    nextHas (runTurn (.hostWrite 0x20 16 0) State.reset) (fun t => decide (t = State.reset)) = true := by decide
/-- V120: SERVICE, BOOTED, DRDY, PEND. -/
theorem test_status_fields : statusWord { servicing [] with pend := true } = 0x000000E4#32 := by decide
/-- V36. -/
theorem test_status_failed_boot :
    statusWord { State.reset with phase := .failed, bfstep := 4, err := .busFail } = 0x00041002#32 := by decide

-- Commands: acceptance (start IDLE, or as the vector says)

/-- V50 with an error left by an earlier command (R191's example). -/
theorem test_nop_clears_err :
    nextHas (exec .nop { armed [] with err := .badLen }) (fun t => t.err == .ok && t.phase == .armed) = true := by decide
/-- V62. -/
theorem test_nop_ignored_while_busy :
    nextHas (exec .nop { booting 1 5 [] with err := .busFail }) (fun t => t.err == .busFail) = true := by decide
/-- V73. -/
theorem test_wrcmd_firmware_register :
    nextHas (exec (.wrcmd .fwErase 0) State.reset) (fun t => t.err == .badReg && !t.busy) = true := by decide
/-- V74. -/
theorem test_wrcmd_length : nextHas (exec (.wrcmd .fwVerify 1) State.reset) (fun t => t.err == .badLen) = true := by
  decide
/-- V77: drive 4 is a drive mode. -/
theorem test_wrreg_drive_4 :
    nextHas (exec (.wrreg .measMode 1) { State.reset with data := #v[0x40, 0, 0, 0, 0, 0, 0, 0] })
      (fun t => t.busy && t.err == .ok && t.ldata[0] == 0x40) = true := by decide
/-- V78: drive 5 is not. -/
theorem test_wrreg_drive_5 :
    nextHas (exec (.wrreg .measMode 1) { State.reset with data := #v[0x50, 0, 0, 0, 0, 0, 0, 0] })
      (fun t => t.err == .badValue && !t.busy) = true := by decide
/-- V88: BAD_REG comes before BAD_LEN. -/
theorem test_wrmbox_register_before_length :
    nextHas (exec (.wrmbox .algResultData 9) State.reset) (fun t => t.err == .badReg) = true := by decide
/-- V11. -/
theorem test_wrmbox_length :
    nextHas (exec (.wrmbox .thresholds 3) State.reset) (fun t => t.err == .badLen) = true := by decide
/-- V96. -/
theorem test_rdmbox_too_long :
    nextHas (exec (.rdmbox .algResultData 3) State.reset) (fun t => t.err == .badLen) = true := by decide
/-- V102. -/
theorem test_rdmbox_while_armed :
    nextHas (exec (.rdmbox .hwId 1) (armed [])) (fun t => decide (t = { armed [] with err := .state })) = true := by
  decide
/-- V40a: a retry clears what the failed boot recorded. -/
theorem test_boot_retry :
    nextHas (exec .boot { State.reset with phase := .failed, bfstep := 4, err := .busFail, hwid := 0x81 })
      (fun t => statusWord t == 0x00000011#32 && diagWord t == 0#32) = true := by decide
/-- V40b. -/
theorem test_boot_while_armed :
    nextHas (exec .boot (armed [])) (fun t => statusWord t == 0x00006123#32) = true := by decide
/-- V126. -/
theorem test_classify_leaves_level :
    nextHas (exec (.classify 1500) (armed [])) (fun t => classWord t == 2#32 && t.level == .none) = true := by decide
/-- V133, V134, V135, V136. -/
theorem test_classify_boundaries :
    [classify 900, classify 901, classify 1200, classify 1201] = [.good, .warning, .warning, .alert] := by decide

-- The command step

/-- V84. -/
theorem test_cmdstep_wrmbox :
    nextHas (exec .cmdStep (waiting .wrmbox .thresholds 4 thresholdBytes thresholdBytes [okBytes 0 0]))
      (fun t => t.hist == [.tx .w 0x5B [0x10, 0x03, 0x84, 0x04, 0xB0] 0 (.ok [])] && t.err == .ok && !t.busy) = true := by
  decide
/-- V103: DATA as the host left it, but for the byte read. -/
theorem test_cmdstep_rdmbox :
    nextHas (exec .cmdStep (waiting .rdmbox .hwId 1 data11223344 #v[0xDD, 0xCC, 0xBB, 0xAA, 0, 0, 0, 0] [okBytes 0x81 0]))
      (fun t => data0Word t.data == 0xAABBCC81#32 && t.hist == [.tx .wr 0x5B [0x20] 1 (.ok [0x81])]) = true := by decide

-- The boot steps

/-- V41. -/
theorem test_boot_t1 :
    nextHas (exec .bootTx (booting 0 0 [okBytes 0x81 0]))
      (fun t => t.bstep == 1 && t.dcnt == 11 && t.hwid == 0x81) = true := by decide
/-- V34: T2 fails. -/
theorem test_boot_t2_fails :
    nextHas (exec .bootT2Status { booting 2 0 [.fail] with hwid := 0x81 })
      (fun t => statusWord t == 0x00021002#32 && diagWord t == 0x00000081#32 && t.hist.length == 1) = true := by decide
/-- V45. -/
theorem test_boot_t3 :
    nextHas (exec .bootT3FwVerify (booting 4 0 [okBytes 0 0]))
      (fun t => t.bstep == 5 && t.dcnt == 101 && t.hist == [.tx .w 0x5B [0xF3] 0 (.ok [])]) = true := by decide
/-- V44. -/
theorem test_boot_t4 :
    nextHas (exec .bootT4AppStart (booting 6 0 [okBytes 0 0])) (fun t => t.bstep == 7 && t.dcnt == 1001) = true := by
  decide
/-- R238. -/
theorem test_boot_t5 :
    nextHas (exec .bootT5MeasMode (booting 8 0 [okBytes 0 0]))
      (fun t => t.hist == [.tx .w 0x5B [0x01, 0x18] 0 (.ok [])] && t.bstep == 9) = true := by decide
/-- V32: ERRID is captured and never checked. -/
theorem test_boot_t6 :
    nextHas (exec .bootT6ErrId (booting 10 0 [okBytes 0x05 0]))
      (fun t => t.errid == 0x05 && t.bstep == 11 && t.phase == .boot) = true := by decide
/-- V31: a differing echo sets MM and the block still arms. -/
theorem test_boot_t7_mismatch :
    nextHas (exec .bootT7ModeEcho (booting 12 0 [okBytes 0x10 0])) (fun t => statusWord t == 0x00000323#32) = true := by
  decide
/-- V39: T7 fails. -/
theorem test_boot_fail_at_t7 :
    nextHas (exec .bootFail (booting 12 0 [])) (fun t => statusWord t == 0x00071002#32) = true := by decide
/-- V42, V43. -/
theorem test_boot_delay_waits :
    nextHas (exec .bootDelay (booting 1 1 [])) (fun t => t.bstep == 1) = true := by decide
theorem test_boot_delay_ends : nextHas (exec .bootDelay (booting 1 0 [])) (fun t => t.bstep == 2) = true := by decide
theorem test_tick : nextHas (exec .tick (booting 1 1 [])) (fun t => t.dcnt == 0) = true := by decide
/-- V46. -/
theorem test_tick_at_zero :
    nextHas (exec .tick State.reset) (fun t => decide (t = State.reset)) = true := by decide

-- The read loop

theorem test_evt_latched_before_boot : nextHas (exec .evtCapture State.reset) (fun t => t.pend) = true := by decide
/-- V123: the event coalesces with the unread one. -/
theorem test_deliver_coalesces :
    nextHas (exec .evtDeliver { armed [] with drdy := true, pend := true }) (fun t => t.drdy && !t.pend) = true := by
  decide
/-- V120: no delivery while servicing. -/
theorem test_deliver_masked :
    nextHas (exec .evtDeliver { servicing [] with pend := true }) (fun t => t.pend) = true := by decide
theorem test_wake : nextHas (exec .loopWake (armed [])) (fun t => t.phase == .service && !t.ie) = true := by decide
/-- V111. -/
theorem test_check_alert :
    nextHas (exec .loopCheck (servicing [okBytes 0x05 0xDC]))
      (fun t => resultWord t == 0x000205DC#32 && t.levelStb && !t.drdy && t.sstep == .rearm &&
        t.hist == [.tx .wr 0x5B [0x02] 2 (.ok [0x05, 0xDC]), .setLevel .alert]) = true := by decide
/-- V117. -/
theorem test_check_failure :
    nextHas (exec .loopCheck { servicing [.fail] with value := 1500, level := .alert })
      (fun t => resultWord t == 0x000205DC#32 && !t.levelStb && !t.drdy &&
        t.hist == [.tx .wr 0x5B [0x02] 2 .fail]) = true := by decide
theorem test_rearm :
    nextHas (exec .loopRearm { servicing [] with sstep := .rearm }) (fun t => t.phase == .armed && t.ie) = true := by
  decide

-- RST and steps

/-- V141. -/
theorem test_reset_during_boot :
    nextHas (exec .reset (booting 7 500 [.fail]))
      (fun t => decide (t = { State.reset with busQueue := [.fail] })) = true := by decide
/-- R374, R370: an EVT pulse while RST is asserted is not latched. -/
theorem test_evt_while_reset_asserted :
    nextHas (step { State.reset with rst := true, agenda := [.evt] }) (fun t => !t.pend && t.rst) = true := by decide
/-- The first step after reset runs the command placed for it. -/
theorem test_first_step_runs_boot :
    nextHas (step (State.reset.withFetchWord 32 0x00005000)) (fun t => statusWord t == 0x00000011#32) = true := by decide
/-- V61: ILLEGAL is checked before STATE. -/
theorem test_first_step_illegal :
    nextHas (step ((armed []).withFetchWord 32 0x0000341F)) (fun t => t.err == .illegal) = true := by decide
/-- LEVEL_STB is high for one step (R16). -/
theorem test_strobe_falls :
    nextHas (step { State.reset with levelStb := true, agenda := [.tick] }) (fun t => !t.levelStb) = true := by decide

-- The host's statements and the wire

theorem test_setdata :
    stmtSETDATA Config.default [0x03, 0x84, 0x04, 0xB0] = [.hostWrite 0x08 32 0xB0048403#32] := by decide
/-- R132, R129. -/
theorem test_statements :
    stmtWRREG Config.default .measMode = some (.hostWrite 0x00 32 0x00002101#32) ∧
    commandText (.wrmbox .thresholds 4) = some "WRMBOX THRESHOLDS, 4" ∧ commandText (.wrcmd .fwVerify 1) = none := by
  decide
theorem test_wait_ends : (waitEnds 0x00000011#32, waitEnds 0x00000123#32) = (false, true) := by decide
theorem test_waitarmed_ends : [0x11, 0x02, 0x123, 0x124].map (fun n => waitArmedEnds (BitVec.ofNat 32 n)) =
    [false, true, true, true] := by decide
/-- R160. -/
theorem test_address_bytes : (addressByte 0x5B false, addressByte 0x5B true) = (0xB6#8, 0xB7#8) := by decide
/-- R160: the master does not acknowledge the last byte read. -/
theorem test_wire_frame_of_a_read :
    wireFrame (.tx .wr 0x5B [0x02] 2 (.ok [0x03, 0x84])) = some
      [.start, .byte 0xB6, .ack, .byte 0x02, .ack, .repeatedStart, .byte 0xB7, .ack, .byte 0x03, .ack, .byte 0x84, .nack,
       .stop] := by decide

end Sys2Proof.Tests
end

