-- ==== Sys2Proof/Tests/Witnesses.lean ====
section
/-! SUPPORT. For every statement with hypotheses, a concrete state and operands that meet all of them. -/

namespace Sys2Proof.Tests
open Sys2Proof.Machine

-- Encoding

theorem witness_DecodeOfEncodeIsTheCommand :
    (Instr.rdmbox .thresholds 15).wf = true ∧ (Instr.rdmbox .thresholds 15).isCommand = true := by decide
theorem witness_EncodeOfDecodeIsTheWord : decode 0x0000340F#32 = .ok (.wrmbox .swReset 4) := rfl
theorem witness_IllegalWordsAreExactlyThese :
    (7 ≤ ((0x00007000#32).extractLsb' 12 4).toNat) ∧ (0x0000101D#32).extractLsb' 4 4 ≠ 0 ∧
    (0x0001100D#32).extractLsb' 16 16 ≠ 0 ∧ (0x00005001#32).extractLsb' 0 4 ≠ 0 ∧ State.reset.busy = false := by decide
theorem witness_legal_word : decode 0xFFFF6000#32 = .ok (.classify 0xFFFF) := rfl

-- Steps

theorem witness_StepRunsTheSubmittedCommand :
    let s : State := { State.reset with agenda := [.hostWrite 0 32 0x00005000] }
    s.rst = false ∧ s.nextTurn = .hostWrite s.cfg.hostBase 32 0x00005000 ∧ decode 0x00005000 = .ok .boot :=
  ⟨rfl, rfl, rfl⟩
theorem witness_StepRunsTheStepOfItsTurn :
    let t (s : State) : State := { s with agenda := [.sequencer] }
    (t State.reset).rst = false ∧ (t State.reset).nextTurn = .sequencer ∧
    ((t State.reset).phase = .idle ∧ (t State.reset).busy = false) ∧
    (let s := t (waiting .wrcmd .fwVerify 0 data11223344 data11223344 [])
     s.nextTurn = .sequencer ∧ s.rst = false ∧ s.phase = .idle ∧ s.busy = true) ∧
    (let s := t (booting 12 0 [])
     s.nextTurn = .sequencer ∧ s.rst = false ∧ s.phase = .boot ∧ s.bstep.toNat % 2 = 0) ∧
    (let s := t (booting 11 0 [])
     s.nextTurn = .sequencer ∧ s.rst = false ∧ s.phase = .boot ∧ s.bstep.toNat % 2 = 1 ∧ s.dcnt = 0) ∧
    (let s := t (booting 11 1 [])
     s.nextTurn = .sequencer ∧ s.rst = false ∧ s.phase = .boot ∧ s.bstep.toNat % 2 = 1 ∧ s.dcnt ≠ 0) ∧
    (let s := t (armed [])
     s.nextTurn = .sequencer ∧ s.rst = false ∧ s.phase = .armed) ∧
    (let s := t (servicing [])
     s.nextTurn = .sequencer ∧ s.rst = false ∧ s.phase = .service ∧ s.sstep = .check) ∧
    (let s := t { servicing [] with sstep := .rearm }
     s.nextTurn = .sequencer ∧ s.rst = false ∧ s.phase = .service ∧ s.sstep = .rearm) ∧
    (∀ turn ∈ [Turn.evt, .deliver, .tick, .hostRead 4 32, .hostWrite 8 32 5],
      ({ State.reset with agenda := [turn] } : State).nextTurn = turn) := by decide
theorem witness_ResetTakesPrecedence :
    (let s : State := { State.reset with rst := true, agenda := [.evt] }
     s.rst = true ∧ ∀ level, s.nextTurn ≠ .rst level) ∧
    ({ booting 7 9 [] with agenda := [.rst true] } : State).nextTurn = .rst true ∧
    ({ booting 7 9 [] with agenda := [.rst false] } : State).nextTurn = .rst false := by decide

-- Host accesses

theorem witness_OnlyAlignedWordAccessesReachTheBlock :
    (31 < 32 ∧ 31 % 4 ≠ 0) ∧ (28 < 32 ∧ (8 : Nat) ≠ 32) ∧ (28 < 32 ∧ 28 % 4 = 0) ∧
    State.reset.cfg.hostBase + 32 ≤ 32 := by decide

-- Commands

theorem witness_CommandsAreIgnoredWhileBusy :
    (booting 1 5 []).busy = true ∧ (Instr.classify 5).isCommand = true := by decide
theorem witness_NopClearsErrOnly :
    (armed []).busy = false ∧ (booting 1 5 []).busy = true ∧
    (0x00000F00#32).extractLsb' 12 4 = 0 ∧ 0x00000F00#32 ≠ 0x00000000#32 := by decide
theorem witness_ClassifyWritesCresAndErrOnly :
    (servicing []).busy = false ∧ (booting 1 5 []).busy = true ∧
    (0xFFFF6800#32).extractLsb' 12 4 = 6 ∧ (0xFFFF6800#32).extractLsb' 0 12 ≠ 0 := by decide
theorem witness_BootStartsTheSequence :
    (State.reset.busy = false ∧ State.reset.phase = .idle) ∧
    (let s : State := { State.reset with phase := .failed }; s.busy = false ∧ s.phase = .failed) ∧
    ((armed []).busy = false ∧ (armed []).phase = .armed) ∧ ((servicing []).busy = false ∧ (servicing []).phase = .service) ∧
    (booting 1 5 []).busy = true ∧ (0x80005000#32).extractLsb' 12 4 = 5 ∧ 0x80005000#32 ≠ 0x00005000#32 := by decide
theorem witness_WrcmdIsLatchedThenSent :
    let s : State := { State.reset with busQueue := [okBytes 0 0] }
    s.busy = false ∧ s.phase = .idle ∧ regDir s.cfg .appStart = .c ∧ s.nextAnswer = .ok #v[0, 0, 0, 0, 0, 0, 0, 0] ∧
    ({ s with busQueue := [.fail] } : State).nextAnswer = .fail := by decide
theorem witness_WrregIsLatchedThenSent :
    let s : State := { State.reset with busQueue := [okBytes 0 0], data := #v[0x9E, 0, 0, 0, 0, 0, 0, 0] }
    s.busy = false ∧ s.phase = .idle ∧ regDir s.cfg .measMode = .rw ∧ regWidth s.cfg .measMode = 1 ∧
    (s.data[0].extractLsb' 4 3).toNat ≤ 4 ∧ s.nextAnswer = .ok #v[0, 0, 0, 0, 0, 0, 0, 0] ∧
    ({ s with busQueue := [.fail] } : State).nextAnswer = .fail := by decide
theorem witness_WrmboxIsLatchedThenSent :
    let s : State := { State.reset with busQueue := [okBytes 0 0], phase := .failed }
    s.busy = false ∧ s.phase = .failed ∧ regDir s.cfg .swReset = .w ∧ regWidth s.cfg .swReset ≤ 8 ∧
    SensorReg.swReset ≠ .measMode ∧ s.nextAnswer = .ok #v[0, 0, 0, 0, 0, 0, 0, 0] ∧
    ({ s with busQueue := [.fail] } : State).nextAnswer = .fail := by decide
theorem witness_RdmboxIsLatchedThenRead :
    let s : State := { State.reset with busQueue := [okBytes 5 6] }
    s.busy = false ∧ s.phase = .idle ∧ regDir s.cfg .algResultData = .r ∧ 1 ≤ 2 ∧ 2 ≤ regWidth s.cfg .algResultData ∧
    regWidth s.cfg .algResultData ≤ 8 ∧ s.nextAnswer = .ok #v[5, 6, 0, 0, 0, 0, 0, 0] ∧
    ({ s with busQueue := [.fail] } : State).nextAnswer = .fail := by decide
theorem witness_BusCommandsNeedIdleOrFailed :
    (armed []).busy = false ∧ (armed []).phase ≠ .idle ∧ (armed []).phase ≠ .failed := by decide
theorem witness_RegisterMustAllowTheOperation :
    let s := State.reset
    s.busy = false ∧ s.phase = .idle ∧ regDir s.cfg .measMode ≠ .c ∧
    (regDir s.cfg .status ≠ .w ∧ regDir s.cfg .status ≠ .rw) ∧
    (regDir s.cfg .thresholds ≠ .r ∧ regDir s.cfg .thresholds ≠ .rw) := by decide
theorem witness_LengthMustFitTheRegister :
    let s := State.reset
    s.busy = false ∧ s.phase = .idle ∧ (regDir s.cfg .fwVerify = .c ∧ 1 ≠ 0) ∧
    (regDir s.cfg .swReset = .w ∧ regWidth s.cfg .swReset ≠ 1) ∧
    (regDir s.cfg .envData = .w ∧ 3 ≠ regWidth s.cfg .envData) ∧
    (regDir s.cfg .algResultData = .r ∧ regWidth s.cfg .algResultData < 3) := by decide
theorem witness_MeasModeWritesNameADriveMode :
    let s : State := { State.reset with data := #v[0x50, 0, 0, 0, 0, 0, 0, 0] }
    s.busy = false ∧ s.phase = .idle ∧ regDir s.cfg .measMode = .rw ∧ 4 < (s.data[0].extractLsb' 4 3).toNat ∧
    regWidth s.cfg .measMode = 1 := by decide
theorem witness_CommandStepPerformsOneTransaction :
    let s := waiting .wrmbox .thresholds 4 thresholdBytes data11223344 [okBytes 0 0]
    s.busy = true ∧ s.phase = .idle ∧ s.lcmd = ⟨.wrmbox, .thresholds, 4⟩ ∧
    ([0x03, 0x84, 0x04, 0xB0] : List Byte).length = 4 ∧
    (∀ i, (h : i < 8) → i < 4 → ([0x03, 0x84, 0x04, 0xB0] : List Byte)[i]? = some s.ldata[i]) := by
  refine ⟨rfl, rfl, rfl, rfl, fun i _ h => ?_⟩
  rcases (by omega : i = 0 ∨ i = 1 ∨ i = 2 ∨ i = 3) with rfl | rfl | rfl | rfl <;> rfl

-- Boot

theorem witness_BootReadsCaptureTheirByte :
    let s (k : BitVec 4) := booting k 0 [okBytes 7 0]
    (s 0).phase = .boot ∧ (s 0).nextAnswer = .ok #v[7, 0, 0, 0, 0, 0, 0, 0] ∧ (s 0).bstep = 0 ∧ (s 2).bstep = 2 ∧
    (s 10).bstep = 10 := by decide
theorem witness_BootWritesSendTheirBytes :
    let s (k : BitVec 4) := booting k 0 [okBytes 0 0]
    (s 4).phase = .boot ∧ (s 4).nextAnswer = .ok #v[0, 0, 0, 0, 0, 0, 0, 0] ∧ (s 4).bstep = 4 ∧ (s 6).bstep = 6 ∧
    (s 8).bstep = 8 := by decide
theorem witness_BootCompletionArmsTheLoop :
    let s := booting 12 0 [okBytes 0x18 0]
    s.phase = .boot ∧ s.bstep = 12 ∧ s.nextAnswer = .ok #v[0x18, 0, 0, 0, 0, 0, 0, 0] := by decide
theorem witness_BootFailureNamesTheTransaction :
    (let s := booting 12 0 [.fail]
     1 ≤ 7 ∧ 7 ≤ 7 ∧ s.phase = .boot ∧ s.bstep.toNat = 2 * (7 - 1) ∧ s.nextAnswer = .fail) ∧
    (let s := booting 0 0 [.fail]
     s.phase = .boot ∧ s.bstep.toNat = 2 * (1 - 1) ∧ s.nextAnswer = .fail) := by decide
theorem witness_BootFailRowIsTheFailureEffect :
    (booting 6 0 []).phase = .boot ∧ (booting 6 0 []).bstep.toNat = 2 * (4 - 1) := by decide
theorem witness_BootDelayWaitsForTheCounter :
    (booting 11 0 []).phase = .boot ∧ (booting 11 0 []).bstep.toNat % 2 = 1 ∧ (booting 11 0 []).dcnt = 0 ∧
    (booting 1 11 []).dcnt ≠ 0 ∧ (booting 1 11 []).busy = true := by decide
theorem witness_StepsNotEnabledLeaveTheState :
    State.reset.phase ≠ .boot ∧ (booting 1 5 []).bstep.toNat % 2 = 1 ∧ (booting 2 0 []).bstep.toNat % 2 = 0 ∧
    (booting 2 0 []).bstep ≠ 0 ∧
    (booting 0 0 []).bstep ≠ 2 ∧ (booting 6 0 []).bstep ≠ 4 ∧ (booting 4 0 []).bstep ≠ 6 ∧ (booting 12 0 []).bstep ≠ 8 ∧
    (booting 12 0 []).bstep ≠ 10 ∧ (booting 10 0 []).bstep ≠ 12 ∧ 12 < (booting 14 0 []).bstep.toNat ∧
    (booting 1 5 []).dcnt ≠ 0 ∧ State.reset.busy = false ∧ State.reset.ie = false ∧ (armed []).pend = false ∧
    State.reset.phase ≠ .armed ∧ State.reset.phase ≠ .service ∧ (servicing []).sstep ≠ .rearm := by decide
theorem witness_TickCountsTheDelayDown : (booting 1 11 []).dcnt = 10 + 1 ∧ State.reset.dcnt = 0 := by decide
theorem witness_NoBootTransactionBeforeItsTicks :
    let s := booting 1 11 []
    let turns : List Turn := [.tick, .sequencer, .evt]
    s.phase = .boot ∧ s.busy = true ∧ s.bstep.toNat % 2 = 1 ∧ s.rst = false ∧ (∀ turn ∈ turns, turn ≠ .rst true) ∧
    turns.count .tick < s.dcnt ∧ (runTurns turns s).isSome = true := by decide
theorem witness_BootIssuesItsTransactionsInOrder :
    let s := booting 0 0 []
    s.phase = .boot ∧ s.bstep = 0 ∧ s.busy = true ∧ s.rst = false ∧ BootRun s s :=
  ⟨rfl, rfl, rfl, rfl, .start⟩

-- Read loop

theorem witness_DeliveryMovesPendToDrdy :
    let s : State := { armed [] with pend := true }
    s.ie = true ∧ s.pend = true := by decide
theorem witness_WakeMasksBeforeInspecting : (armed []).phase = .armed := by decide
theorem witness_CheckReadsClassifiesAndEmits :
    let s := servicing [okBytes 3 0x84]
    s.phase = .service ∧ s.sstep = .check ∧ s.drdy = true ∧ s.nextAnswer = .ok #v[3, 0x84, 0, 0, 0, 0, 0, 0] ∧
    (servicing [.fail]).nextAnswer = .fail ∧ ({ servicing [] with drdy := false } : State).drdy = false := by decide
theorem witness_RearmUnmasksAfterActing :
    let s : State := { servicing [] with sstep := .rearm }
    s.phase = .service ∧ s.sstep = .rearm := by decide
theorem witness_DrdyAndPendChangeOnlyByDeliveryAndRead :
    (let s : State := { armed [] with pend := true, agenda := [.deliver] }
     s.nextTurn ≠ .rst true ∧ nextHas (step s) (fun t => t.drdy && !t.pend) = true ∧ s.drdy = false ∧ s.pend = true) ∧
    (let s : State := { servicing [.fail] with agenda := [.sequencer] }
     s.nextTurn ≠ .rst true ∧ nextHas (step s) (fun t => !t.drdy) = true ∧ s.drdy = true) := by decide
theorem witness_OnlyResetLeavesTheLoop :
    let s : State := { armed [] with agenda := [.hostWrite 0 32 0x00005000] }
    s.phase = .armed ∧ s.nextTurn ≠ .rst true ∧ nextHas (step s) (fun _ => true) = true := by decide
theorem witness_OnlyTheSequencerUsesTheBus :
    let s : State := { armed [] with agenda := [.evt] }
    s.nextTurn ≠ .rst true ∧ s.nextTurn ≠ .sequencer ∧ nextHas (step s) (fun _ => true) = true := by decide
theorem witness_HistoryIsOnlyAppendedTo :
    let s : State := { servicing [okBytes 1 2] with agenda := [.sequencer] }
    s.nextTurn ≠ .rst true ∧ nextHas (step s) (fun t => t.hist.length == 2) = true := by decide
theorem witness_HostCannotTouchTheReadLoop :
    nextHas (runTurn (.hostRead 4 32) State.reset) (fun _ => true) = true ∧
    nextHas (runTurn (.hostWrite 0 32 0x00005000) State.reset) (fun _ => true) = true := by decide
theorem witness_DiagnosticsNeverSteerTheBlock :
    let s : State := { State.reset with agenda := [.tick] }
    s.withoutDiagnostics = ({ s with hwid := 0x81, mm := true } : State).withoutDiagnostics ∧
    nextHas (step s) (fun _ => true) = true := by decide

-- Classifier

theorem witness_ClassifyIsMonotonic : (900 : BitVec 16).toNat ≤ (901 : BitVec 16).toNat := by decide

-- Invariants and runs

/-- The state right after reset meets the invariant, whatever the environment has settled. -/
theorem settled_reset_inv (agenda : List Turn) (answers : List BusAnswer) :
    BlockInv { State.reset with agenda := agenda, busQueue := answers } := by
  constructor
  · exact (by decide : Config.default.wf = true)
  all_goals first | (intro _; rfl) | simp [State.reset, emittedLevels, State.cmdWaiting]

/-- An armed state meets the invariant. -/
theorem armed_inv (answers : List BusAnswer) : BlockInv (armed answers) := by
  constructor
  · exact (by decide : Config.default.wf = true)
  all_goals simp [armed, State.reset, emittedLevels, State.cmdWaiting, hostOwnsBus]

/-- A boot that has just been accepted meets the invariant. -/
theorem booting_inv : BlockInv (booting 0 0 []) := by
  constructor
  · exact (by decide : Config.default.wf = true)
  all_goals simp [booting, State.reset, emittedLevels, State.cmdWaiting, hostOwnsBus]

theorem witness_StepKeepsTheInvariant :
    BlockInv { State.reset with agenda := [.evt], busQueue := [] } ∧
    nextHas (step { State.reset with agenda := [.evt], busQueue := [] }) (fun _ => true) = true :=
  ⟨settled_reset_inv _ _, by decide⟩
theorem witness_ReachableStatesMeetR64 : Reachable State.reset := .start _ (by decide) rfl
theorem witness_BusTrafficStaysInTheRegisterMap :
    let s : State := { booting 0 0 [] with agenda := [.sequencer], busQueue := [.fail] }
    BlockInv s ∧ nextHas (step s) (fun t =>
      txShapes t.hist == txShapes s.hist ++ [⟨.wr, 0x5B, [0x20], 1, false⟩]) = true := by
  refine ⟨?_, by decide⟩
  constructor
  · exact (by decide : Config.default.wf = true)
  all_goals simp [booting, State.reset, emittedLevels, State.cmdWaiting, hostOwnsBus]

/-- The run of a schedule from a state, standing still where a turn is refused. -/
def runOf (schedule : Nat → Turn) (s0 : State) : Nat → State
  | 0 => s0
  | n + 1 =>
    match stepWith (schedule n) (runOf schedule s0 n) with
    | .next t => t
    | .fault _ => runOf schedule s0 n
    | .refused _ => runOf schedule s0 n

theorem runOf_isRun (schedule : Nat → Turn) (s0 : State) (hr : ∀ n a w, schedule n ≠ .hostRead a w)
    (hw : ∀ n a w v, schedule n ≠ .hostWrite a w v) : IsRun schedule (runOf schedule s0) := by
  intro n
  obtain ⟨t, ht⟩ := stepWith_completes (schedule n) (runOf schedule s0 n) (hr n) (hw n)
  simp only [runOf, ht]

/-- Sequencer and Tick in turn. -/
def bootSchedule (n : Nat) : Turn := if n % 2 = 0 then .sequencer else .tick

theorem witness_BusyEventuallyClears :
    let run := runOf bootSchedule (booting 0 0 [])
    IsRun bootSchedule run ∧ NeverResets bootSchedule ∧ SequencerWeaklyFair bootSchedule run ∧
    TickWeaklyFair bootSchedule run ∧ BlockInv (run 0) ∧ (run 0).rst = false := by
  refine ⟨runOf_isRun _ _ ?_ ?_, ?_, fun n _ => ⟨2 * n, by omega, by simp [bootSchedule]⟩,
    fun n _ => ⟨2 * n + 1, by omega, by simp [bootSchedule, Nat.add_mod]⟩, booting_inv, rfl⟩
  · intro n a w; unfold bootSchedule; split <;> simp
  · intro n a w v; unfold bootSchedule; split <;> simp
  · intro n level; unfold bootSchedule; split <;> simp

/-- An event, its delivery, and one iteration of the loop, over and over. -/
def loopSchedule (n : Nat) : Turn :=
  match n % 5 with
  | 0 => .evt
  | 1 => .deliver
  | _ => .sequencer

/-- The loop waits, armed and released from RST. -/
def loopWaits (s : State) : Prop := s.phase = .armed ∧ s.ie = true ∧ s.rst = false

theorem loop_after_evt {s t : State} (h : loopWaits s) (he : stepWith .evt s = .next t) :
    loopWaits t ∧ t.pend = true := by
  rw [stepWith_released _ h.2.2] at he
  cases he
  exact ⟨h, rfl⟩

theorem loop_after_deliver {s t : State} (h : loopWaits s) (he : stepWith .deliver s = .next t) : loopWaits t := by
  rw [stepWith_released _ h.2.2] at he
  cases he
  split <;> exact h

theorem loop_iteration {s t1 t2 t3 : State} (h : loopWaits s) (e1 : stepWith .sequencer s = .next t1)
    (e2 : stepWith .sequencer t1 = .next t2) (e3 : stepWith .sequencer t2 = .next t3) : loopWaits t3 := by
  obtain ⟨h1, -, h3⟩ := h
  have a : t1.phase = .service ∧ t1.sstep = .check ∧ t1.rst = false := by
    rw [stepWith_released _ h3] at e1
    simp only [runTurn, sequencerInstr, State.turnTaken, h1, exec, execLoopWake, if_true] at e1
    cases e1
    exact ⟨rfl, rfl, h3⟩
  obtain ⟨a1, a2, a3⟩ := a
  have b : t2.phase = .service ∧ t2.sstep = .rearm ∧ t2.rst = false := by
    rw [stepWith_released _ a3] at e2
    simp only [runTurn, sequencerInstr, State.turnTaken, a1, a2, exec, execLoopCheck, and_self, if_true] at e2
    cases e2
    split
    · exact ⟨(State.readResult_frame _).1, rfl, (State.readResult_frame _).2.trans a3⟩
    · exact ⟨rfl, rfl, a3⟩
  obtain ⟨b1, b2, b3⟩ := b
  rw [stepWith_released _ b3] at e3
  simp only [runTurn, sequencerInstr, State.turnTaken, b1, b2, exec, execLoopRearm, and_self, if_true] at e3
  cases e3
  exact ⟨rfl, rfl, b3⟩

theorem witness_EventIsEventuallyReadUnlessWakesOutrunDelivery :
    let run := runOf loopSchedule (armed [])
    IsRun loopSchedule run ∧ NeverResets loopSchedule ∧ SequencerWeaklyFair loopSchedule run ∧
    DeliveryStronglyFair loopSchedule run ∧ BlockInv (run 0) ∧ (run 0).rst = false ∧ (run 0).phase = .armed ∧
    loopSchedule 0 = .evt ∧ loopSchedule 1 = .deliver ∧ deliveryEnabled (run 1) = true := by
  have hrun : IsRun loopSchedule (runOf loopSchedule (armed [])) := by
    refine runOf_isRun _ _ ?_ ?_
    · intro n a w; unfold loopSchedule; split <;> simp
    · intro n a w v; unfold loopSchedule; split <;> simp
  have at_ : ∀ k j, j < 5 → loopSchedule (5 * k + j) = loopSchedule j := by
    intro k j hj
    simp [loopSchedule, Nat.add_mod]
  have hw : ∀ k, loopWaits (runOf loopSchedule (armed []) (5 * k)) := by
    intro k
    induction k with
    | zero => exact ⟨rfl, rfl, rfl⟩
    | succ k ih =>
      have s0 := hrun (5 * k)
      have s1 := hrun (5 * k + 1)
      have s2 := hrun (5 * k + 2)
      have s3 := hrun (5 * k + 3)
      have s4 := hrun (5 * k + 4)
      rw [show loopSchedule (5 * k) = .evt from at_ k 0 (by omega)] at s0
      rw [at_ k 1 (by omega)] at s1
      rw [at_ k 2 (by omega)] at s2
      rw [at_ k 3 (by omega)] at s3
      rw [at_ k 4 (by omega)] at s4
      exact loop_iteration (loop_after_deliver (loop_after_evt ih s0).1 s1) s2 s3 s4
  refine ⟨hrun, ?_, ?_, ?_, armed_inv [], rfl, rfl, rfl, rfl, ?_⟩
  · intro n level; unfold loopSchedule; split <;> simp
  · exact fun n _ => ⟨5 * n + 2, by omega, at_ n 2 (by omega)⟩
  · intro _ n
    refine ⟨5 * n + 1, by omega, at_ n 1 (by omega), ?_⟩
    have s0 := hrun (5 * n)
    rw [show loopSchedule (5 * n) = .evt from at_ n 0 (by omega)] at s0
    have := loop_after_evt (hw n) s0
    simp [deliveryEnabled, this.1.2.1, this.2]
  · have := loop_after_evt (hw 0) (hrun 0)
    simp [deliveryEnabled, this.1.2.1, this.2]

end Sys2Proof.Tests
end

section
/-! PROOF. The invariant holds at reset and every step keeps it; R64 in every reachable state. -/

namespace Sys2Proof.Machine

-- The levels a history emitted

@[simp] theorem emittedLevels_append (h h' : List Event) :
    emittedLevels (h ++ h') = emittedLevels h ++ emittedLevels h' := List.filterMap_append

@[simp] theorem emittedLevels_txEvent (s : State) (k : TxKind) (w : List Byte) (m : Nat) :
    emittedLevels [s.txEvent k w m] = [] := rfl

@[simp] theorem emittedLevels_setLevel (l : Level) : emittedLevels [.setLevel l] = [l] := rfl

-- What the invariant says of single phases

theorem hostOwnsBus_iff (s : State) : hostOwnsBus s = true ↔ s.phase = .idle ∨ s.phase = .failed := by
  simp [hostOwnsBus]

theorem cmdWaiting_iff (s : State) :
    s.cmdWaiting = true ↔ s.busy = true ∧ (s.phase = .idle ∨ s.phase = .failed) := by
  simp [State.cmdWaiting, hostOwnsBus]

/-- Outside the loop the block is not booted and the event is masked (R64). -/
theorem BlockInv.outside_loop {s : State} (h : BlockInv s) (ha : s.phase ≠ .armed) (hs : s.phase ≠ .service) :
    s.booted = false ∧ s.ie = false := by
  rw [← Bool.not_eq_true, ← Bool.not_eq_true, h.booted_iff, h.ie_iff]
  simp [ha, hs]

/-- No boot has failed where the phase is not FAILED (R64). -/
theorem BlockInv.bfstep_eq_zero {s : State} (h : BlockInv s) (hp : s.phase ≠ .failed) : s.bfstep = 0 :=
  not_not.1 fun hb => hp (h.bfstep_failed hb)

/-- The delay counter runs in a boot's delay alone (R64). -/
theorem BlockInv.dcnt_eq_zero {s : State} (h : BlockInv s) (hp : s.phase ≠ .boot ∨ s.bstep.toNat % 2 = 0) :
    s.dcnt = 0 := by
  by_contra hd
  obtain ⟨hboot, hodd⟩ := h.dcnt_boot hd
  rcases hp with hp | hp
  · exact hp hboot
  · omega

theorem stateAllows_of_isBusOp {op : Op} {s : State} (hop : isBusOp op = true) :
    stateAllows op s = hostOwnsBus s := by
  cases op <;> simp_all [isBusOp, stateAllows]

-- States the environment has touched, and states at reset

/-- A block at its reset values meets the invariant, whatever its parameters and its environment (R371). -/
theorem blockInv_of_reset {s : State} (hc : s.cfg.wf = true) (hs : s.resetElements = s) : BlockInv s := by
  rw [← hs]
  constructor
  case cfg_wf => exact hc
  case rst_held => exact fun _ => s.resetElements_idem
  all_goals simp [State.reset, emittedLevels, State.cmdWaiting]

/-- What the environment settles is no concern of the invariant. -/
theorem BlockInv.settle {s : State} (h : BlockInv s) (agenda : List Turn) (answers : List BusAnswer) :
    BlockInv { s with agenda := agenda, busQueue := answers } :=
  { h with rst_held := fun hr =>
      congrArg (fun t : State => { t with agenda := agenda, busQueue := answers }) (h.rst_held hr) }

theorem BlockInv.beginTurn {s : State} (h : BlockInv s) : BlockInv s.beginTurn :=
  { h with rst_held := fun hr => congrArg State.beginTurn (h.rst_held hr) }

-- The shared operations keep the invariant while RST is released

/-- A state with RST released owes nothing to R370. -/
theorem held_of_released {t : State} (hr : t.rst = false) : t.rst = true → t.resetElements = t := by
  simp [hr]

section
variable {s : State} (h : BlockInv s) (hr : s.rst = false)
include h hr

theorem BlockInv.afterTx (k : TxKind) (w : List Byte) (m : Nat) : BlockInv (s.afterTx k w m) :=
  { h with
    level_last := by simpa using h.level_last
    emitted_real := by simpa using h.emitted_real
    rst_held := held_of_released hr }

theorem BlockInv.newReading (b0 b1 : Byte) : BlockInv (s.newReading b0 b1) :=
  { h with
    level_last := by simp
    emitted_real := by simpa using ⟨h.emitted_real, (classify_ne_none _).symm⟩
    rst_held := held_of_released hr }

/-- An accepted bus command has passed the checks the invariant asks of a waiting one (R184). -/
theorem BlockInv.acceptBus {op : Op} {r : SensorReg} {len : Nat} (hop : isBusOp op = true)
    (ha : acceptance op r len s = .ok) : BlockInv (s.acceptBus op r len) := by
  obtain ⟨hstate, hreg, hlen, -⟩ := (acceptance_eq_ok_iff op r len s).1 ha
  rw [stateAllows_of_isBusOp hop, hostOwnsBus_iff] at hstate
  exact { h with
    boot_busy := fun _ => rfl
    loop_not_busy := by rcases hstate with hp | hp <;> simp [hp]
    waiting_legal := fun _ => ⟨hop, hreg, hlen⟩
    rst_held := held_of_released hr }

theorem BlockInv.acceptBoot (hown : s.phase = .idle ∨ s.phase = .failed) : BlockInv s.acceptBoot := by
  have hidle : s.phase ≠ .armed ∧ s.phase ≠ .service := by rcases hown with hp | hp <;> simp [hp]
  obtain ⟨hbooted, hie⟩ := h.outside_loop hidle.1 hidle.2
  exact { h with
    booted_iff := by simp [hbooted]
    boot_busy := fun _ => rfl
    loop_not_busy := by simp
    ie_iff := by simp [hie]
    bfstep_failed := by simp
    dcnt_boot := by simp
    dcnt_bound := Nat.zero_le _
    bstep_range := by simp
    bstep_rest := fun _ => rfl
    sstep_rest := fun _ => h.sstep_rest hidle.2
    waiting_legal := by simp [cmdWaiting_iff]
    rst_held := held_of_released hr }

theorem BlockInv.cmdDone (hown : s.phase = .idle ∨ s.phase = .failed) (o : BusAnswer) : BlockInv (s.cmdDone o) :=
  { h with
    boot_busy := by rcases hown with hp | hp <;> simp [hp]
    loop_not_busy := fun _ => rfl
    waiting_legal := by simp [cmdWaiting_iff]
    rst_held := held_of_released hr }

theorem BlockInv.bootAdvance {n ms : Nat} (hp : s.phase = .boot) (hn : n < 6) (hb : s.bstep.toNat = 2 * n)
    (hms : ms ≤ maxDelay s.cfg) : BlockInv (s.bootAdvance ms) :=
  { h with
    dcnt_boot := fun _ => ⟨hp, by simp; omega⟩
    dcnt_bound := Nat.succ_le_succ hms
    bstep_range := by simp; omega
    bstep_rest := fun hq => absurd hp hq
    waiting_legal := by simp [cmdWaiting_iff, hp]
    rst_held := held_of_released hr }

theorem BlockInv.bootComplete (hp : s.phase = .boot) (hb : s.bstep = 12) (b : Byte) : BlockInv (s.bootComplete b) :=
  { h with
    booted_iff := by simp
    boot_busy := by simp
    loop_not_busy := fun _ => rfl
    ie_iff := by simp
    bfstep_failed := fun hq => absurd (h.bfstep_eq_zero (by simp [hp])) hq
    dcnt_boot := fun hq => absurd (h.dcnt_eq_zero (.inr (by simp [hb]))) hq
    bstep_range := by simp
    bstep_rest := fun _ => rfl
    sstep_rest := fun _ => rfl
    waiting_legal := by simp [cmdWaiting_iff]
    rst_held := held_of_released hr }

theorem BlockInv.bootFailure (hp : s.phase = .boot) : BlockInv s.bootFailure := by
  obtain ⟨hbooted, hie⟩ := h.outside_loop (by simp [hp]) (by simp [hp])
  exact { h with
    booted_iff := by simp [hbooted]
    boot_busy := by simp
    loop_not_busy := fun _ => rfl
    ie_iff := by simp [hie]
    bfstep_failed := fun _ => rfl
    dcnt_boot := by simp
    dcnt_bound := Nat.zero_le _
    bstep_range := by simp
    bstep_rest := fun _ => rfl
    sstep_rest := fun _ => h.sstep_rest (by simp [hp])
    waiting_legal := by simp [cmdWaiting_iff]
    rst_held := held_of_released hr }

/-- Between ARMED and SERVICE only IE and the service cursor must keep up (R274, R276). -/
theorem BlockInv.moveInLoop {p : Phase} {ie : Bool} {ss : ServiceStep} (hp : s.phase = .armed ∨ s.phase = .service)
    (hq : p = .armed ∨ p = .service) (hi : ie = true ↔ p = .armed) (hs : p ≠ .service → ss = .check) :
    BlockInv { s with ie := ie, phase := p, sstep := ss } := by
  have hloop : s.phase ≠ .boot ∧ s.phase ≠ .failed := by rcases hp with hp | hp <;> simp [hp]
  exact { h with
    booted_iff := by simp [hq, h.booted_iff.2 hp]
    boot_busy := by rcases hq with rfl | rfl <;> simp
    loop_not_busy := fun _ => h.loop_not_busy hp
    ie_iff := hi
    bfstep_failed := fun hb => absurd (h.bfstep_eq_zero hloop.2) hb
    dcnt_boot := fun hd => absurd (h.dcnt_eq_zero (.inl hloop.1)) hd
    bstep_rest := fun _ => h.bstep_rest hloop.1
    sstep_rest := hs
    waiting_legal := by simp [cmdWaiting_iff, h.loop_not_busy hp]
    rst_held := held_of_released hr }

end

-- Every effect keeps the invariant

/-- Every effect a turn can have with RST released keeps the invariant. -/
theorem Effect.keeps_inv {turn : Turn} {s t : State} (he : Effect turn s t) (h : BlockInv s) (hr : s.rst = false) :
    BlockInv t := by
  cases he with
  | none => exact h
  | read => exact { h with rst_held := held_of_released hr }
  | data => exact { h with rst_held := held_of_released hr }
  | err => exact { h with rst_held := held_of_released hr }
  | classify => exact { h with rst_held := held_of_released hr }
  | acceptBus _ _ _ _ _ _ _ _ hop ha => exact h.acceptBus hr hop ha
  | acceptBoot _ _ _ _ _ hown => exact h.acceptBoot hr ((hostOwnsBus_iff s).1 hown)
  | command k w m d _ hw =>
    have hd : BlockInv { s.afterTx k w m with data := d } :=
      { h.afterTx hr k w m with rst_held := held_of_released hr }
    exact hd.cmdDone hr ((cmdWaiting_iff s).1 hw).2 _
  | bootNext n x hw ds er b ms _ hp hn hb hx ha hms =>
    have hd : BlockInv { s.afterTx x.kind x.sent x.readCount with hwid := hw, dstat := ds, errid := er } :=
      { h.afterTx hr _ _ _ with rst_held := held_of_released hr }
    exact hd.bootAdvance hr hp hn hb hms
  | bootDone x b _ hp hb => exact (h.afterTx hr _ _ _).bootComplete hr hp hb _
  | bootFail n x _ hp => exact (h.afterTx hr _ _ _).bootFailure hr hp
  | bootDelay _ hp hb hd =>
    exact { h with
      dcnt_boot := fun hq => absurd hd hq
      bstep_range := by have := h.bstep_range; simp; omega
      bstep_rest := fun hq => absurd hp hq
      rst_held := held_of_released hr }
  | tick _ hd =>
    exact { h with
      dcnt_boot := fun _ => h.dcnt_boot (by omega)
      dcnt_bound := (Nat.sub_le _ _).trans h.dcnt_bound
      rst_held := held_of_released hr }
  | evt => exact { h with rst_held := held_of_released hr }
  | deliver => exact { h with rst_held := held_of_released hr }
  | wake _ hp => exact h.moveInLoop hr (.inl hp) (.inr rfl) (by simp) (by simp)
  | checkOk b _ hp =>
    have hd : BlockInv { s.afterTx .wr [regAddr s.cfg .algResultData] 2 with drdy := false } :=
      { h.afterTx hr _ _ _ with rst_held := held_of_released hr }
    exact { hd.newReading hr b[0] b[1] with
      sstep_rest := fun hq => absurd hp hq
      rst_held := held_of_released hr }
  | checkFail _ hp =>
    exact { h.afterTx hr .wr [regAddr s.cfg .algResultData] 2 with
      sstep_rest := fun hq => absurd hp hq
      rst_held := held_of_released hr }
  | checkIdle _ hp =>
    exact { h with
      sstep_rest := fun hq => absurd hp hq
      rst_held := held_of_released hr }
  | rearm _ hp => exact h.moveInLoop hr (.inr hp) (.inl rfl) (by simp) (by simp)
  | assertRst => exact blockInv_of_reset h.cfg_wf rfl
  | releaseRst => exact { h with rst_held := held_of_released rfl }

/-- RST's own turns keep the invariant in every state (R370). -/
theorem Effect.rst_keeps_inv {level : Bool} {s t : State} (he : Effect (.rst level) s t) (h : BlockInv s) :
    BlockInv t := by
  cases he with
  | none => exact h
  | assertRst => exact blockInv_of_reset h.cfg_wf rfl
  | releaseRst => exact { h with rst_held := held_of_released rfl }

theorem step_keeps_inv {s t : State} (h : BlockInv s) (hs : step s = .next t) : BlockInv t := by
  obtain ⟨-, rfl⟩ | ⟨hr | ⟨level, ht⟩, he⟩ := step_effect hs
  · exact h.beginTurn
  · exact he.keeps_inv h.beginTurn hr
  · exact (ht ▸ he).rst_keeps_inv h.beginTurn

theorem stepWith_keeps_inv {turn : Turn} {s t : State} (h : BlockInv s) (hs : stepWith turn s = .next t) :
    BlockInv t :=
  step_keeps_inv (h.settle (turn :: s.agenda) s.busQueue) hs

theorem Reachable.blockInv {s : State} (h : Reachable s) : BlockInv s := by
  induction h with
  | start s hc hs => exact blockInv_of_reset hc hs
  | settle s agenda answers _ ih => exact ih.settle agenda answers
  | step s t _ hs ih => exact step_keeps_inv ih hs

/-- A list's last level, NONE where there is none, is NONE exactly for the empty list, NONE not being in it. -/
theorem getLast?_getD_eq_none_iff {l : List Level} (h : Level.none ∉ l) :
    l.getLast?.getD .none = .none ↔ l = [] := by
  cases e : l.getLast? with
  | none => simpa using e
  | some x =>
    have hx : x ∈ l := List.mem_of_getLast? e
    refine ⟨fun (hn : x = .none) => absurd (hn ▸ hx) h, ?_⟩
    rintro rfl
    simp at e

theorem BlockInv.r64Holds {s : State} (h : BlockInv s) : R64Holds s := by
  refine ⟨h.booted_iff, h.boot_busy, h.loop_not_busy, h.ie_iff, fun hp => ?_, ?_, h.bfstep_failed, fun hd => ?_⟩
  · rw [← Bool.not_eq_true, h.ie_iff, hp]
    simp
  · rw [h.level_last]
    exact getLast?_getD_eq_none_iff h.emitted_real
  · by_contra hne
    exact hd (h.dcnt_boot hne)

/-- Settles O55: a step has one of the effects of its turn, and each keeps the invariant. -/
theorem stepKeepsTheInvariant : Obligations.StepKeepsTheInvariant := fun _ _ h hs => step_keeps_inv h hs

/-- Settles O56, by induction over the run from reset: the invariant holds along it and gives R64's items. -/
theorem reachableStatesMeetR64 : Obligations.ReachableStatesMeetR64 := fun _ h => h.blockInv.r64Holds

/-- Settles O54: a state at its reset values meets the invariant. -/
theorem resetStateMeetsTheInvariant : Obligations.ResetStateMeetsTheInvariant := blockInv_of_reset rfl rfl

end Sys2Proof.Machine
end

section
/-! PROOF. What a step's turn runs, agent by agent. -/

namespace Sys2Proof.Machine

section
variable {s : State}

/-- A step with RST released runs its turn. -/
theorem step_released {turn : Turn} (hr : s.rst = false) (ht : s.nextTurn = turn) :
    step s = runTurn turn s.beginTurn := by
  rw [step, ht, takeTurn_run (s := s.beginTurn) (.inl hr)]

theorem runTurn_sequencer_some {i : Instr} (h : sequencerInstr s = some i) : runTurn .sequencer s = exec i s := by
  simp only [runTurn, h]

theorem runTurn_sequencer_none (h : sequencerInstr s = none) : runTurn .sequencer s = .next s := by
  simp only [runTurn, h]

-- The Sequencer's enabled step in each phase

theorem sequencerInstr_command (hp : s.phase = .idle ∨ s.phase = .failed) (hb : s.busy = true) :
    sequencerInstr s = some .cmdStep := by
  rcases hp with hp | hp <;> simp [sequencerInstr, hp, hb]

theorem sequencerInstr_no_command (hp : s.phase = .idle ∨ s.phase = .failed) (hb : s.busy = false) :
    sequencerInstr s = none := by
  rcases hp with hp | hp <;> simp [sequencerInstr, hp, hb]

theorem sequencerInstr_bootTx (hp : s.phase = .boot) (hk : s.bstep.toNat % 2 = 0) :
    sequencerInstr s = some .bootTx := by
  simp [sequencerInstr, hp, hk]

theorem sequencerInstr_bootDelay (hp : s.phase = .boot) (hk : s.bstep.toNat % 2 = 1) (hd : s.dcnt = 0) :
    sequencerInstr s = some .bootDelay := by
  simp [sequencerInstr, hp, hk, hd]

theorem sequencerInstr_delayed (hp : s.phase = .boot) (hk : s.bstep.toNat % 2 = 1) (hd : s.dcnt ≠ 0) :
    sequencerInstr s = none := by
  simp [sequencerInstr, hp, hk, hd]

theorem sequencerInstr_armed (hp : s.phase = .armed) : sequencerInstr s = some .loopWake := by
  simp [sequencerInstr, hp]

theorem sequencerInstr_check (hp : s.phase = .service) (hs : s.sstep = .check) :
    sequencerInstr s = some .loopCheck := by
  simp [sequencerInstr, hp, hs]

theorem sequencerInstr_rearm (hp : s.phase = .service) (hs : s.sstep = .rearm) :
    sequencerInstr s = some .loopRearm := by
  simp [sequencerInstr, hp, hs]

/-- A host write of a word to CMD submits it (R56). -/
theorem runTurn_write_cmd (w : Word) : runTurn (.hostWrite s.cfg.hostBase 32 w) s = submitWord w s := by
  have : hostTarget s.cfg s.cfg.hostBase 32 = .reg .cmd := hostTarget_offset s.cfg 0 32 (by omega)
  simp only [runTurn, hostWrite, this]

end

/-- Settles O7: a released step runs its turn, and the Sequencer's turn the instruction its phase enables. -/
theorem stepRunsTheStepOfItsTurn : Obligations.StepRunsTheStepOfItsTurn := by
  intro s hr
  refine ⟨step_released hr, step_released hr, step_released hr, fun _ _ => step_released hr,
    fun _ _ _ => step_released hr, fun ht => ?_⟩
  have runs {i : Instr} (h : sequencerInstr s.beginTurn = some i) : step s = exec i s.beginTurn :=
    (step_released hr ht).trans (runTurn_sequencer_some h)
  have idles (h : sequencerInstr s.beginTurn = none) : step s = .next s.beginTurn :=
    (step_released hr ht).trans (runTurn_sequencer_none h)
  exact ⟨fun hp hb => runs (sequencerInstr_command hp hb), fun hp hb => idles (sequencerInstr_no_command hp hb),
    fun hp hk => runs (sequencerInstr_bootTx hp hk), fun hp hk hd => runs (sequencerInstr_bootDelay hp hk hd),
    fun hp hk hd => idles (sequencerInstr_delayed hp hk hd), fun hp => runs (sequencerInstr_armed hp),
    fun hp hs => runs (sequencerInstr_check hp hs), fun hp hs => runs (sequencerInstr_rearm hp hs)⟩

/-- Settles O6: a released step runs its host write, whose target is CMD and whose word decodes. -/
theorem stepRunsTheSubmittedCommand : Obligations.StepRunsTheSubmittedCommand := by
  intro s w i hr ht hd
  calc step s = runTurn (.hostWrite s.cfg.hostBase 32 w) s.beginTurn := step_released hr ht
    _ = submitWord w s.beginTurn := runTurn_write_cmd (s := s.beginTurn) w
    _ = exec i s.beginTurn := by simp only [submitWord, hd]

end Sys2Proof.Machine
end

section
/-! PROOF. BUSY clears: the turn a busy block waits for is always enabled and always brings the work to its end nearer. -/

namespace Sys2Proof.Machine

-- The awaited turn

/-- The turn a busy block waits for: a tick while the delay counter runs, else the Sequencer's. -/
def State.awaited (s : State) : Turn := if s.dcnt = 0 then .sequencer else .tick

/-- What is left of a boot: its cursor's way to the end, each place weighing more than a delay, and the delay. -/
def State.bootWork (s : State) : Nat := (13 - s.bstep.toNat) * (maxDelay s.cfg + 2) + s.dcnt

theorem State.awaited_cases (s : State) :
    (s.dcnt = 0 ∧ s.awaited = .sequencer) ∨ (s.dcnt ≠ 0 ∧ s.awaited = .tick) := by
  by_cases hd : s.dcnt = 0 <;> simp [State.awaited, hd]

/-- The cursor's next place, whatever delay is loaded there, leaves less work. -/
theorem bootWork_lt {s t : State} (hk : s.bstep.toNat ≤ 12) (hb : t.bstep = s.bstep + 1) (hc : t.cfg = s.cfg)
    (hd : t.dcnt ≤ maxDelay s.cfg + 1) : t.bootWork < s.bootWork := by
  have hb : t.bstep.toNat = s.bstep.toNat + 1 := by rw [hb]; simp; omega
  rw [State.bootWork, State.bootWork, hb, hc, show 13 - s.bstep.toNat = 13 - (s.bstep.toNat + 1) + 1 by omega,
    Nat.add_one_mul]
  omega

-- The Sequencer's steps move the block

/-- A boot transaction asks the bus once, where what it does with the bytes asks no more. -/
theorem bootEnd_txIdx (t : BusAnswer × State) {onOk : Byte → State → State}
    (h : ∀ b u, (onOk b u).txIdx = u.txIdx) : (bootEnd t onOk).txIdx = t.2.txIdx := by
  obtain ⟨b, -, e⟩ | ⟨-, e⟩ := bootEnd_cases t onOk
  · rw [e, h]
  · rw [e, State.bootFailure_txIdx]

/-- The boot transaction step asks the bus once (R233). -/
theorem execBootTx_txIdx {s t : State} (hp : s.phase = .boot) (he : s.bstep.toNat % 2 = 0) (hb : s.bstep.toNat ≤ 12)
    (h : execBootTx s = .next t) : t.txIdx = s.txIdx + 1 := by
  have hk : s.bstep.toNat = 0 ∨ s.bstep.toNat = 2 ∨ s.bstep.toNat = 4 ∨ s.bstep.toNat = 6 ∨ s.bstep.toNat = 8 ∨
      s.bstep.toNat = 10 ∨ s.bstep.toNat = 12 := by omega
  rcases hk with e | e | e | e | e | e | e
  all_goals
    simp only [execBootTx, hp, e, if_true, Host.Outcome.next.injEq] at h
    subst h
    exact bootEnd_txIdx _ fun _ _ => rfl

/-- The command step of a waiting bus command asks the bus once (R190). -/
theorem execCmdStep_txIdx {s t : State} (hw : s.cmdWaiting = true) (hop : isBusOp s.lcmd.op = true)
    (h : execCmdStep s = .next t) : t.txIdx = s.txIdx + 1 := by
  simp only [execCmdStep, hw, if_true, Host.Outcome.next.injEq] at h
  subst h
  cases ho : s.lcmd.op <;> simp only [ho, isBusOp, Bool.false_eq_true] at hop
  case rdmbox =>
    simp only [State.stepRdmbox, State.txWriteRead]
    cases s.nextAnswer <;> rfl
  all_goals rfl

/-- A busy block whose delay is over has a Sequencer step enabled, and that step moves it (R190, R233, R242). -/
theorem BlockInv.sequencer_moves {s : State} (h : BlockInv s) (hb : s.busy = true) (hd : s.dcnt = 0) :
    ∃ i, sequencerInstr s = some i ∧ exec i s ≠ .next s := by
  have command (hp : s.phase = .idle ∨ s.phase = .failed) : ∃ i, sequencerInstr s = some i ∧ exec i s ≠ .next s := by
    have hw : s.cmdWaiting = true := (cmdWaiting_iff s).2 ⟨hb, hp⟩
    refine ⟨_, sequencerInstr_command hp hb, fun hs => ?_⟩
    have := execCmdStep_txIdx hw (h.waiting_legal hw).1 hs
    omega
  cases hp : s.phase with
  | idle => exact command (.inl hp)
  | failed => exact command (.inr hp)
  | boot =>
    have hk := h.bstep_range
    rcases Nat.mod_two_eq_zero_or_one s.bstep.toNat with he | ho
    · refine ⟨_, sequencerInstr_bootTx hp he, fun hs => ?_⟩
      have := execBootTx_txIdx hp he hk hs
      omega
    · refine ⟨_, sequencerInstr_bootDelay hp ho hd, fun hs => ?_⟩
      simp only [exec, execBootDelay, hp, ho, hd, and_self, if_true, Host.Outcome.next.injEq] at hs
      simpa using congrArg State.bstep hs
  | armed => simp [h.loop_not_busy (.inl hp)] at hb
  | service => simp [h.loop_not_busy (.inr hp)] at hb

/-- The awaited turn moves a busy block. -/
theorem BlockInv.awaited_moves {s : State} (h : BlockInv s) (hb : s.busy = true) : runTurn s.awaited s ≠ .next s := by
  obtain ⟨hd, ha⟩ | ⟨hd, ha⟩ := s.awaited_cases <;> rw [ha]
  · obtain ⟨i, hi, hne⟩ := h.sequencer_moves hb hd
    rwa [runTurn_sequencer_some hi]
  · intro hs
    simp only [runTurn, exec, execTick, Nat.pos_of_ne_zero hd, if_true, Host.Outcome.next.injEq] at hs
    have := congrArg State.dcnt hs
    simp only at this
    omega

-- One step of a busy block

/-- A turn that is not awaited and leaves a busy block's work as it is. -/
structure StandsStill (turn : Turn) (s t : State) : Prop where
  not_awaited : turn ≠ s.awaited
  work : t.bootWork = s.bootWork
  dcnt : t.dcnt = s.dcnt

/-- Every turn short of RST ends a busy block's command, brings it nearer its end, or is not the awaited one. -/
theorem BlockInv.busy_progress {turn : Turn} {s t : State} (h : BlockInv s) (hb : s.busy = true)
    (ht : ∀ level, turn ≠ .rst level) (hs : runTurn turn s = .next t) :
    t.busy = false ∨ t.bootWork < s.bootWork ∨ StandsStill turn s t := by
  have other (hn : turn ≠ .sequencer ∧ turn ≠ .tick) : turn ≠ s.awaited := by
    obtain ⟨-, ha⟩ | ⟨-, ha⟩ := s.awaited_cases <;> rw [ha]
    · exact hn.1
    · exact hn.2
  have loop (hp : s.phase = .armed ∨ s.phase = .service) : False := by simp [h.loop_not_busy hp] at hb
  cases runTurn_effect hs with
  | none => exact .inr (.inr ⟨fun e => h.awaited_moves hb (e ▸ hs), rfl, rfl⟩)
  | read => exact .inr (.inr ⟨other (by simp), rfl, rfl⟩)
  | data => exact .inr (.inr ⟨other (by simp), rfl, rfl⟩)
  | evt => exact .inr (.inr ⟨other (by simp), rfl, rfl⟩)
  | deliver => exact .inr (.inr ⟨other (by simp), rfl, rfl⟩)
  | err _ _ _ _ _ hnb => simp [hnb] at hb
  | classify _ _ _ _ _ hnb => simp [hnb] at hb
  | acceptBus _ _ _ _ _ _ _ hnb => simp [hnb] at hb
  | acceptBoot _ _ _ _ hnb => simp [hnb] at hb
  | command => exact .inl rfl
  | bootDone => exact .inl rfl
  | bootFail => exact .inl rfl
  | bootNext n x hw ds er b ms _ hp hn hk hx ha hms =>
    exact .inr (.inl (bootWork_lt h.bstep_range rfl rfl (Nat.succ_le_succ hms)))
  | bootDelay _ hp ho hd => exact .inr (.inl (bootWork_lt h.bstep_range rfl rfl (by simp [hd])))
  | tick _ hd => exact .inr (.inl (Nat.add_lt_add_left (Nat.sub_lt hd Nat.one_pos) _))
  | wake _ hp => exact (loop (.inl hp)).elim
  | checkOk _ _ hp => exact (loop (.inr hp)).elim
  | checkFail _ hp => exact (loop (.inr hp)).elim
  | checkIdle _ hp => exact (loop (.inr hp)).elim
  | rearm _ hp => exact (loop (.inr hp)).elim
  | assertRst => exact absurd rfl (ht true)
  | releaseRst => exact absurd rfl (ht false)

/-- Only RST's own turns move the RST level. -/
theorem Effect.rst_eq {turn : Turn} {s t : State} (he : Effect turn s t) (ht : ∀ level, turn ≠ .rst level) :
    t.rst = s.rst := by
  cases he with
  | assertRst => exact absurd rfl (ht true)
  | releaseRst => exact absurd rfl (ht false)
  | _ => rfl

theorem BlockInv.turnTaken {s : State} (h : BlockInv s) : BlockInv s.turnTaken :=
  { h with rst_held := fun hr => congrArg State.turnTaken (h.rst_held hr) }

-- Runs

section
variable {schedule : Nat → Turn} {run : Nat → State} (hrun : IsRun schedule run)
include hrun

theorem IsRun.blockInv (h0 : BlockInv (run 0)) (n : Nat) : BlockInv (run n) := by
  induction n with
  | zero => exact h0
  | succ n ih => exact stepWith_keeps_inv ih (hrun n)

variable (hnr : NeverResets schedule)
include hnr

/-- RST stays released in a run that never drives it. -/
theorem IsRun.released {n m : Nat} (hr : (run n).rst = false) (hm : n ≤ m) : (run m).rst = false := by
  induction m, hm using Nat.le_induction with
  | base => exact hr
  | succ m _ ih => exact ((stepWith_effect ih (hrun m)).rst_eq (hnr m)).trans ih

/-- One step of a run with RST released, the block busy before it. -/
theorem IsRun.progress {n : Nat} (h : BlockInv (run n)) (hr : (run n).rst = false) (hb : (run n).busy = true) :
    (run (n + 1)).busy = false ∨ (run (n + 1)).bootWork < (run n).bootWork ∨
      StandsStill (schedule n) (run n) (run (n + 1)) := by
  obtain hdone | hless | ⟨ha, hw, hd⟩ :=
    h.turnTaken.busy_progress hb (hnr n) ((stepWith_released (schedule n) hr).symm.trans (hrun n))
  · exact .inl hdone
  · exact .inr (.inl hless)
  · exact .inr (.inr ⟨ha, hw, hd⟩)

/-- While a run's block stays busy with its least work, it stands still at every step. -/
theorem IsRun.standsStill {n : Nat} (h0 : BlockInv (run 0)) (hr : (run n).rst = false)
    (hbusy : ∀ m, n ≤ m → (run m).busy = true) (hleast : ∀ m, n ≤ m → (run n).bootWork ≤ (run m).bootWork) {m : Nat}
    (hm : n ≤ m) : (run m).dcnt = (run n).dcnt ∧ (run m).bootWork = (run n).bootWork ∧
      StandsStill (schedule m) (run m) (run (m + 1)) := by
  have still (k : Nat) (hk : n ≤ k) (hw : (run k).bootWork = (run n).bootWork) :
      StandsStill (schedule k) (run k) (run (k + 1)) := by
    obtain hdone | hless | hstill :=
      hrun.progress hnr (hrun.blockInv h0 k) (hrun.released hnr hr hk) (hbusy k hk)
    · simp [hbusy (k + 1) (by omega)] at hdone
    · have := hleast (k + 1) (by omega)
      omega
    · exact hstill
  induction m, hm using Nat.le_induction with
  | base => exact ⟨rfl, rfl, still n le_rfl rfl⟩
  | succ m hm ih =>
    obtain ⟨hd, hw, hstill⟩ := ih
    have hw' := hstill.work.trans hw
    exact ⟨hstill.dcnt.trans hd, hw', still (m + 1) (by omega) hw'⟩

/-- No fair run's block stays busy with its least work for ever: the awaited turn comes. -/
theorem IsRun.work_falls {n : Nat} (hseq : SequencerWeaklyFair schedule run) (htick : TickWeaklyFair schedule run)
    (h0 : BlockInv (run 0)) (hr : (run n).rst = false) (hbusy : ∀ m, n ≤ m → (run m).busy = true) :
    ∃ m, n ≤ m ∧ (run m).bootWork < (run n).bootWork := by
  by_contra! hleast
  have still {m : Nat} (hm : n ≤ m) := hrun.standsStill hnr h0 hr hbusy hleast hm
  obtain ⟨m, hm, hturn⟩ : ∃ m, n ≤ m ∧ schedule m = (run m).awaited := by
    by_cases hd : (run n).dcnt = 0
    · have enabled (m : Nat) (hm : n ≤ m) : sequencerInstr (run m) ≠ none := by
        obtain ⟨i, hi, -⟩ := (hrun.blockInv h0 m).sequencer_moves (hbusy m hm) ((still hm).1.trans hd)
        simp [hi]
      obtain ⟨m, hm, hturn⟩ := hseq n enabled
      exact ⟨m, hm, by simp [hturn, State.awaited, (still hm).1, hd]⟩
    · obtain ⟨m, hm, hturn⟩ := htick n fun m hm => by have := (still hm).1; omega
      exact ⟨m, hm, by simp [hturn, State.awaited, (still hm).1, hd]⟩
  obtain ⟨-, -, hstill⟩ := still hm
  exact hstill.not_awaited hturn

/-- In a fair run BUSY is 0 at some point from any on, by induction on the work that is left. -/
theorem IsRun.busy_clears (hseq : SequencerWeaklyFair schedule run) (htick : TickWeaklyFair schedule run)
    (h0 : BlockInv (run 0)) (n : Nat) (hr : (run n).rst = false) : ∃ m, n ≤ m ∧ (run m).busy = false := by
  induction hw : (run n).bootWork using Nat.strong_induction_on generalizing n with
  | h w ih =>
    by_contra! hbusy
    simp only [ne_eq, Bool.not_eq_false] at hbusy
    obtain ⟨m, hm, hlt⟩ := hrun.work_falls hnr hseq htick h0 hr hbusy
    obtain ⟨k, hk, hdone⟩ := ih _ (hw ▸ hlt) m (hrun.released hnr hr hm) rfl
    simp [hbusy k (hm.trans hk)] at hdone

end

/-- Settles O58: the work left falls until the command is done, since fairness brings the turn it waits for. -/
theorem busyEventuallyClears : Obligations.BusyEventuallyClears :=
  fun _ _ n hrun hnr hseq htick h0 hr => hrun.busy_clears hnr hseq htick h0 n hr

end Sys2Proof.Machine
end

section
/-! PROOF. The host window: what a read of each register returns, and what DATA0 and DATA1 read back. -/

namespace Sys2Proof.Machine

-- Accesses to a register

theorem hostTarget_reg (c : Config) (r : HostReg) : hostTarget c (c.hostBase + hostRegOffset r) 32 = .reg r := by
  rw [hostTarget_offset c _ 32 (by cases r <;> decide)]
  cases r <;> rfl

/-- A 32-bit read at a register's offset returns its value and changes nothing (R83). -/
theorem runTurn_read (s : State) (r : HostReg) :
    runTurn (.hostRead (s.cfg.hostBase + hostRegOffset r) 32) s =
      .next { s with hostOut := some (hostRegValue s r) } := by
  simp only [runTurn, hostRead, hostTarget_reg]

/-- A 32-bit write at the offset of a register other than CMD (R84). -/
theorem runTurn_write (s : State) {r : HostReg} (hr : r ≠ .cmd) (v : Word) :
    runTurn (.hostWrite (s.cfg.hostBase + hostRegOffset r) 32 v) s = .next (s.writeHostReg r v) := by
  cases r with
  | cmd => exact absurd rfl hr
  | _ => simp only [runTurn, hostWrite, hostTarget_reg]

theorem stepWith_read {s : State} (hrst : s.rst = false) (r : HostReg) :
    stepWith (.hostRead (s.cfg.hostBase + hostRegOffset r) 32) s =
      .next { s.turnTaken with hostOut := some (hostRegValue s.turnTaken r) } :=
  (stepWith_released _ hrst).trans (runTurn_read s.turnTaken r)

theorem stepWith_write {s : State} (hrst : s.rst = false) {r : HostReg} (hr : r ≠ .cmd) (v : Word) :
    stepWith (.hostWrite (s.cfg.hostBase + hostRegOffset r) 32 v) s = .next (s.turnTaken.writeHostReg r v) :=
  (stepWith_released _ hrst).trans (runTurn_write s.turnTaken hr v)

-- The fields of STATUS (R57)

section
variable (s : State)

theorem statusWord_phase : (statusWord s).extractLsb' 0 4 = phaseCode s.phase := by
  simp (disch := omega) only [statusWord, BitVec.extractLsb'_append_eq_of_add_le, BitVec.extractLsb'_eq_self]

theorem statusWord_flags :
    (statusWord s).getLsbD 4 = s.busy ∧ (statusWord s).getLsbD 5 = s.booted ∧ (statusWord s).getLsbD 6 = s.drdy ∧
    (statusWord s).getLsbD 7 = s.pend ∧ (statusWord s).getLsbD 8 = s.ie ∧ (statusWord s).getLsbD 9 = s.mm ∧
    (statusWord s).getLsbD 15 = false := by
  refine ⟨?_, ?_, ?_, ?_, ?_, ?_, ?_⟩
  all_goals
    simp only [statusWord, BitVec.getLsbD_append, BitVec.getLsbD_ofBool, BitVec.getLsbD_zero, Nat.reduceLT,
      Nat.reduceSub, if_true, if_false, decide_true, Bool.true_and]

theorem statusWord_err : (statusWord s).extractLsb' 12 3 = errCode s.err := by
  simp (disch := omega) only [statusWord, BitVec.extractLsb'_append_eq_of_add_le, BitVec.extractLsb'_append_eq_of_le,
    BitVec.extractLsb'_eq_self, Nat.reduceSub]

theorem statusWord_bfstep : (statusWord s).extractLsb' 16 3 = s.bfstep := by
  simp (disch := omega) only [statusWord, BitVec.extractLsb'_append_eq_of_add_le, BitVec.extractLsb'_append_eq_of_le,
    BitVec.extractLsb'_eq_self, Nat.reduceSub]

theorem statusWord_reserved :
    (statusWord s).extractLsb' 10 2 = 0 ∧ (statusWord s).extractLsb' 19 13 = 0 := by
  constructor
  all_goals
    simp (disch := omega) only [statusWord, BitVec.extractLsb'_append_eq_of_add_le,
      BitVec.extractLsb'_append_eq_of_le, BitVec.extractLsb'_eq_self, Nat.reduceSub]
    rfl

-- The fields of the other registers (R58 to R62)

/-- The four bytes of a word, the lowest first. -/
theorem bytes_of_append (b3 b2 b1 b0 : Byte) :
    ((b3 ++ b2 ++ b1 ++ b0 : Word).extractLsb' 0 8 = b0) ∧ ((b3 ++ b2 ++ b1 ++ b0 : Word).extractLsb' 8 8 = b1) ∧
    ((b3 ++ b2 ++ b1 ++ b0 : Word).extractLsb' 16 8 = b2) ∧ ((b3 ++ b2 ++ b1 ++ b0 : Word).extractLsb' 24 8 = b3) := by
  refine ⟨?_, ?_, ?_, ?_⟩
  all_goals
    simp (disch := omega) only [BitVec.extractLsb'_append_eq_of_add_le, BitVec.extractLsb'_append_eq_of_le,
      BitVec.extractLsb'_eq_self, Nat.reduceSub]

theorem resultWord_fields :
    (resultWord s).extractLsb' 0 16 = s.value ∧ (resultWord s).extractLsb' 16 2 = levelCode s.level ∧
    (resultWord s).extractLsb' 18 14 = 0 := by
  refine ⟨?_, ?_, ?_⟩
  all_goals
    simp (disch := omega) only [resultWord, BitVec.extractLsb'_append_eq_of_add_le,
      BitVec.extractLsb'_append_eq_of_le, BitVec.extractLsb'_eq_self, Nat.reduceSub]
  rfl

theorem classWord_fields :
    (classWord s).extractLsb' 0 2 = levelCode s.cres ∧ (classWord s).extractLsb' 2 30 = 0 := by
  constructor
  all_goals
    simp (disch := omega) only [classWord, BitVec.extractLsb'_append_eq_of_add_le,
      BitVec.extractLsb'_append_eq_of_le, BitVec.extractLsb'_eq_self, Nat.reduceSub]
  rfl

end

-- DATA0 and DATA1 and their lanes (R86)

theorem append_lanes (v : Word) : (lane v 3 ++ lane v 2 ++ lane v 1 ++ lane v 0 : Word) = v := by
  unfold lane
  rw [BitVec.extractLsb'_append_extractLsb'_eq_extractLsb' (by omega),
    BitVec.extractLsb'_append_extractLsb'_eq_extractLsb' (by omega),
    BitVec.extractLsb'_append_extractLsb'_eq_extractLsb' (by omega)]
  exact BitVec.extractLsb'_eq_self

theorem data0Word_setData0 (v : Word) (b : Buf) : data0Word (setData0 v b) = v := append_lanes v
theorem data1Word_setData1 (v : Word) (b : Buf) : data1Word (setData1 v b) = v := append_lanes v
theorem data0Word_setData1 (v : Word) (b : Buf) : data0Word (setData1 v b) = data0Word b := rfl

-- The obligations

/-- Settles O10: a read of STATUS returns its word, whose fields are read off bit by bit. -/
theorem statusReadReturnsEveryField : Obligations.StatusReadReturnsEveryField := by
  intro s
  obtain ⟨hbusy, hbooted, hdrdy, hpend, hie, hmm, h15⟩ := statusWord_flags s
  obtain ⟨h10, h19⟩ := statusWord_reserved s
  refine ⟨statusWord s, runTurn_read s .status, ?_, hbusy, hbooted, hdrdy, hpend, hie, hmm, h10, ?_, h15,
    statusWord_bfstep s, h19, fun v => runTurn_write s (r := .status) (by decide) v, runTurn_read State.reset .status⟩
  · rw [statusWord_phase]
    cases s.phase <;> rfl
  · rw [statusWord_err]
    cases s.err <;> rfl

/-- Settles O11, register by register. -/
theorem otherRegisterReadsReturnTheirContents : Obligations.OtherRegisterReadsReturnTheirContents := by
  intro s
  obtain ⟨hvalue, hlevel, hresult⟩ := resultWord_fields s
  obtain ⟨hcres, hclass⟩ := classWord_fields s
  refine ⟨runTurn_read s .cmd, ⟨_, runTurn_read s .data0, bytes_of_append ..⟩,
    ⟨_, runTurn_read s .data1, bytes_of_append ..⟩, ⟨_, runTurn_read s .result, hvalue, ?_, hresult⟩,
    ⟨_, runTurn_read s .diag, bytes_of_append ..⟩, ⟨_, runTurn_read s .class_, ?_, hclass⟩,
    runTurn_read s .reserved⟩
  · rw [hostRegValue, hlevel]
    cases s.level <;> rfl
  · rw [hostRegValue, hcres]
    cases s.cres <;> rfl

/-- Settles O13: each write lands in its own four bytes, and the lanes put a word together again. -/
theorem dataRegistersReadBackWhatWasWritten : Obligations.DataRegistersReadBackWhatWasWritten := by
  intro s v u
  let s1 := { s with rst := false }.turnTaken.writeHostReg .data0 v
  let s2 := s1.turnTaken.writeHostReg .data1 u
  have w0 : stepWith (.hostWrite (s.cfg.hostBase + 0x08) 32 v) { s with rst := false } = .next s1 :=
    stepWith_write (s := { s with rst := false }) rfl (r := .data0) (by decide) v
  have w1 : stepWith (.hostWrite (s.cfg.hostBase + 0x0C) 32 u) s1 = .next s2 :=
    stepWith_write (s := s1) rfl (r := .data1) (by decide) u
  have r0 : hostRegValue s2.turnTaken .data0 = v := (data0Word_setData1 u _).trans (data0Word_setData0 v s.data)
  have r1 : hostRegValue s2.turnTaken .data1 = u := data1Word_setData1 u _
  refine ⟨s2, by simp only [runTurns, w0, w1], ?_, ?_⟩
  · exact (stepWith_read (s := s2) rfl .data0).trans (by rw [r0]; rfl)
  · exact (stepWith_read (s := s2) rfl .data1).trans (by rw [r1]; rfl)

end Sys2Proof.Machine
end

section
/-! PROOF. The history only grows, and no step looks at the diagnostics. -/

namespace Sys2Proof.Machine

-- The history

/-- Every effect but RST's appends to the history. -/
theorem Effect.hist_append {turn : Turn} {s t : State} (he : Effect turn s t) (ht : turn ≠ .rst true) :
    ∃ more, t.hist = s.hist ++ more := by
  cases he with
  | command => exact ⟨[_], rfl⟩
  | bootNext => exact ⟨[_], rfl⟩
  | bootDone => exact ⟨[_], rfl⟩
  | bootFail => exact ⟨[_], rfl⟩
  | checkOk => exact ⟨[_, _], List.append_assoc ..⟩
  | checkFail => exact ⟨[_], rfl⟩
  | assertRst => exact absurd rfl ht
  | _ => exact ⟨[], (List.append_nil _).symm⟩

/-- Settles O48: a held step keeps the history, and every effect but RST's appends to it. -/
theorem historyIsOnlyAppendedTo : Obligations.HistoryIsOnlyAppendedTo := by
  refine ⟨rfl, fun s t ht hs => ?_⟩
  obtain ⟨-, rfl⟩ | ⟨-, he⟩ := step_effect hs
  · exact ⟨[], (List.append_nil _).symm⟩
  · exact he.hist_append ht

-- Diagnostics

/-- An outcome less what only diagnoses. -/
def observed : Host.Outcome State Fault Refusal → Host.Outcome State Fault Refusal
  | .next t => .next t.withoutDiagnostics
  | .fault r => .fault r
  | .refused r => .refused r

/-- An update whose result, less the diagnostics, does not depend on the diagnostics. -/
def BlindUpdate (f : State → State) : Prop :=
  ∀ s, (f s.withoutDiagnostics).withoutDiagnostics = (f s).withoutDiagnostics

/-- An operation whose outcome, less the diagnostics, does not depend on the diagnostics. -/
def Blind (g : State → Host.Outcome State Fault Refusal) : Prop := ∀ s, observed (g s.withoutDiagnostics) = observed (g s)

theorem observed_eq_next {o : Host.Outcome State Fault Refusal} {t : State} (h : observed o = .next t) :
    ∃ t', o = .next t' ∧ t'.withoutDiagnostics = t := by
  cases o with
  | next t' => exact ⟨t', rfl, by simpa [observed] using h⟩
  | fault r => cases h
  | refused r => cases h

theorem BlindUpdate.next {f : State → State} (hf : BlindUpdate f) : Blind fun s => .next (f s) :=
  fun s => congrArg Host.Outcome.next (hf s)

theorem BlindUpdate.id : BlindUpdate fun s => s := fun _ => rfl

/-- A choice by a condition the diagnostics have no part in. -/
theorem BlindUpdate.ite {c : State → Prop} [DecidablePred c] {f g : State → State}
    (hc : ∀ s, c s.withoutDiagnostics ↔ c s) (hf : BlindUpdate f) (hg : BlindUpdate g) :
    BlindUpdate fun s => if c s then f s else g s := by
  intro s
  by_cases h : c s
  · simpa only [if_pos h, if_pos ((hc s).2 h)] using hf s
  · simpa only [if_neg h, if_neg (mt (hc s).1 h)] using hg s

-- The shared operations are blind

theorem blind_submit (op : Op) (r : SensorReg) (len : Nat) {accept : State → State} (h : BlindUpdate accept) :
    BlindUpdate fun s => s.submit op r len accept := by
  simp only [State.submit_eq]
  exact .ite (fun _ => Iff.rfl) .id (.ite (fun _ => Iff.rfl) h fun _ => rfl)

theorem blind_bootEnd {tx : State → BusAnswer × State} {onOk : Byte → State → State}
    (ha : ∀ s, (tx s.withoutDiagnostics).1 = (tx s).1)
    (ht : ∀ s, (tx s.withoutDiagnostics).2 = (tx s).2.withoutDiagnostics) (hk : ∀ b, BlindUpdate (onOk b)) :
    BlindUpdate fun s => bootEnd (tx s) onOk := by
  intro s
  simp only [bootEnd, ha, ht]
  cases (tx s).1 with
  | ok b => exact hk b[0] _
  | fail => rfl

theorem blind_boots :
    BlindUpdate State.bootT1 ∧ BlindUpdate State.bootT2 ∧ BlindUpdate State.bootT3 ∧ BlindUpdate State.bootT4 ∧
    BlindUpdate State.bootT5 ∧ BlindUpdate State.bootT6 ∧ BlindUpdate State.bootT7 := by
  refine ⟨?_, ?_, ?_, ?_, ?_, ?_, ?_⟩
  all_goals exact blind_bootEnd (fun _ => rfl) (fun _ => rfl) fun _ _ => rfl

theorem blind_bootTx : Blind execBootTx := by
  refine (BlindUpdate.ite (fun _ => Iff.rfl) (fun s => ?_) .id).next
  rw [show s.withoutDiagnostics.bstep = s.bstep from rfl]
  generalize s.bstep.toNat = k
  obtain ⟨h1, h2, h3, h4, h5, h6, h7⟩ := blind_boots
  split
  exacts [h1 s, h2 s, h3 s, h4 s, h5 s, h6 s, h7 s, rfl]

theorem blind_stepRdmbox : BlindUpdate State.stepRdmbox := by
  intro s
  simp only [State.stepRdmbox, State.txWriteRead, show s.withoutDiagnostics.nextAnswer = s.nextAnswer from rfl]
  cases s.nextAnswer <;> rfl

theorem blind_cmdStep : Blind execCmdStep := by
  refine (BlindUpdate.ite (fun _ => Iff.rfl) (fun s => ?_) .id).next
  rw [show s.withoutDiagnostics.lcmd = s.lcmd from rfl]
  cases s.lcmd.op with
  | rdmbox => exact blind_stepRdmbox s
  | _ => rfl

theorem blind_readResult : BlindUpdate State.readResult := by
  intro s
  simp only [State.readResult, State.txWriteRead, show s.withoutDiagnostics.nextAnswer = s.nextAnswer from rfl]
  cases s.nextAnswer <;> rfl

theorem blind_loopCheck : Blind execLoopCheck := by
  refine (BlindUpdate.ite (fun _ => Iff.rfl) (fun s => ?_) .id).next
  have h := BlindUpdate.ite (c := fun s => s.drdy = true) (fun _ => Iff.rfl) blind_readResult .id s
  exact congrArg (fun t : State => { t with sstep := .rearm }) h

/-- Every operation is blind to the diagnostics. -/
theorem blind_exec (i : Instr) : Blind (exec i) := by
  cases i with
  | nop => exact (blind_submit _ _ _ fun _ => rfl).next
  | wrcmd => exact (blind_submit _ _ _ fun _ => rfl).next
  | wrreg => exact (blind_submit _ _ _ fun _ => rfl).next
  | wrmbox => exact (blind_submit _ _ _ fun _ => rfl).next
  | rdmbox => exact (blind_submit _ _ _ fun _ => rfl).next
  | boot => exact (blind_submit _ _ _ fun _ => rfl).next
  | classify => exact (blind_submit _ _ _ fun _ => rfl).next
  | bootTx => exact blind_bootTx
  | cmdStep => exact blind_cmdStep
  | loopCheck => exact blind_loopCheck
  | evtCapture => exact fun _ => rfl
  | reset => exact fun _ => rfl
  | bootFail => exact (BlindUpdate.ite (fun _ => Iff.rfl) (fun _ => rfl) .id).next
  | bootDelay => exact (BlindUpdate.ite (fun _ => Iff.rfl) (fun _ => rfl) .id).next
  | tick => exact (BlindUpdate.ite (fun _ => Iff.rfl) (fun _ => rfl) .id).next
  | evtDeliver => exact (BlindUpdate.ite (fun _ => Iff.rfl) (fun _ => rfl) .id).next
  | loopWake => exact (BlindUpdate.ite (fun _ => Iff.rfl) (fun _ => rfl) .id).next
  | loopRearm => exact (BlindUpdate.ite (fun _ => Iff.rfl) (fun _ => rfl) .id).next
  | _ => -- the seven rows of single boot transactions
    exact (BlindUpdate.ite (fun _ => Iff.rfl) (blind_bootEnd (fun _ => rfl) (fun _ => rfl) fun _ _ => rfl) .id).next

theorem blind_submitIllegal : BlindUpdate State.submitIllegal := .ite (fun _ => Iff.rfl) .id fun _ => rfl

theorem blind_submitWord (w : Word) : Blind (submitWord w) := by
  intro s
  unfold submitWord
  cases decode w with
  | ok i => exact blind_exec i s
  | error _ => exact blind_submitIllegal.next s

/-- Every turn is blind to the diagnostics; a host read differs in the word returned alone. -/
theorem blind_runTurn (turn : Turn) : Blind (runTurn turn) := by
  intro s
  cases turn with
  | hostRead addr width =>
    simp only [runTurn, hostRead, show s.withoutDiagnostics.cfg = s.cfg from rfl]
    cases hostTarget s.cfg addr width <;> rfl
  | hostWrite addr width v =>
    simp only [runTurn, hostWrite, show s.withoutDiagnostics.cfg = s.cfg from rfl]
    cases hostTarget s.cfg addr width with
    | outside => rfl
    | refused => rfl
    | reg r =>
      cases r with
      | cmd => exact blind_submitWord v s
      | _ => rfl
  | sequencer =>
    simp only [runTurn, show sequencerInstr s.withoutDiagnostics = sequencerInstr s from rfl]
    cases sequencerInstr s with
    | some i => exact blind_exec i s
    | none => rfl
  | evt => exact blind_exec .evtCapture s
  | deliver => exact blind_exec .evtDeliver s
  | tick => exact blind_exec .tick s
  | rst level => cases level <;> rfl

theorem blind_step : Blind step := by
  intro s
  change observed (takeTurn s.nextTurn s.beginTurn.withoutDiagnostics) = observed (takeTurn s.nextTurn s.beginTurn)
  by_cases h : s.beginTurn.rst = false ∨ ∃ level, s.nextTurn = .rst level
  · rw [takeTurn_run h, takeTurn_run (s := s.beginTurn.withoutDiagnostics) h]
    exact blind_runTurn s.nextTurn s.beginTurn
  · simp only [not_or, not_exists, Bool.not_eq_false] at h
    obtain ⟨hr, ht⟩ := h
    rw [takeTurn_held hr ht, takeTurn_held (s := s.beginTurn.withoutDiagnostics) hr ht]
    rfl

/-- Settles O50: every step is blind to the diagnostics, so both states step as the one they have in common. -/
theorem diagnosticsNeverSteerTheBlock : Obligations.DiagnosticsNeverSteerTheBlock := by
  intro s s' t h hs
  have same : observed (step s') = .next t.withoutDiagnostics := by
    rw [← blind_step s', ← h, blind_step s, hs]
    rfl
  obtain ⟨t', ht', e⟩ := observed_eq_next same
  exact ⟨t', ht', e.symm⟩

end Sys2Proof.Machine
end

section
/-! PROOF. The bus traffic stays in the register map: what each transaction a step adds sends and reads. -/

namespace Sys2Proof.Machine

-- The register map

/-- A transaction that sends `w` and reads `m` bytes begins with the address byte of a register the block may reach, and
its payload and its read fit an eight-byte buffer (R10, R181, R187). -/
structure InRegisterMap (c : Config) (w : List Byte) (m : Nat) : Prop where
  sent : w.length ≤ 9
  read : m ≤ 8
  register : ∃ r, r ≠ .fwErase ∧ r ≠ .fwProgram ∧ w.head? = some (regAddr c r)

theorem inRegisterMap_cons {c : Config} {r : SensorReg} {p : List Byte} {m : Nat} (hr : r ≠ .fwErase ∧ r ≠ .fwProgram)
    (hp : p.length ≤ 8) (hm : m ≤ 8) : InRegisterMap c (regAddr c r :: p) m :=
  ⟨Nat.succ_le_succ hp, hm, r, hr.1, hr.2, rfl⟩

theorem bootShapes_inRegisterMap {c : Config} {x : TxShape} (hx : x ∈ bootShapes c) :
    InRegisterMap c x.sent x.readCount := by
  simp only [bootShapes, List.mem_cons, List.not_mem_nil, or_false] at hx
  rcases hx with rfl | rfl | rfl | rfl | rfl | rfl | rfl
  all_goals exact inRegisterMap_cons (by decide) (by simp) (by simp)

-- What a waiting command may name

theorem regWidth_le_eight {c : Config} (hc : c.wf = true) (r : SensorReg) : regWidth c r ≤ 8 := by
  simp only [Config.wf, Bool.and_eq_true, and_assoc] at hc
  obtain ⟨hw, -⟩ := hc
  simp only [List.all_eq_true, decide_eq_true_eq, Vector.mem_toList_iff] at hw
  exact hw _ (Vector.getElem_mem _)

/-- Check 3 keeps every bus command off the firmware-update registers (R187). -/
theorem ne_firmware_of_regAllows {op : Op} {r : SensorReg} {s : State} (hop : isBusOp op = true)
    (h : regAllows op r s = true) : r ≠ .fwErase ∧ r ≠ .fwProgram := by
  simp only [regAllows, hop, Bool.not_true, Bool.false_or, Bool.and_eq_true, decide_eq_true_eq] at h
  exact h.1

/-- Check 4 keeps every bus command's length within the buffer (R188). -/
theorem le_eight_of_lenAllows {op : Op} {r : SensorReg} {len : Nat} {s : State} (hop : isBusOp op = true)
    (hw : regWidth s.cfg r ≤ 8) (h : lenAllows op r len s = true) : len ≤ 8 := by
  cases op <;> simp only [isBusOp, Bool.false_eq_true, lenAllows, decide_eq_true_eq] at hop h <;> omega

-- What a step adds to the history

theorem txShapes_append (h h' : List Event) : txShapes (h ++ h') = txShapes h ++ txShapes h' := List.filterMap_append

/-- The event of a transaction is one to DEV_ADDR with the bytes it sent and the number it read (R14, R150). -/
theorem txShapes_txEvent (s : State) (k : TxKind) (w : List Byte) (m : Nat) :
    txShapes [s.txEvent k w m] = [⟨k, s.cfg.devAddr, w, m, (txOutcome m s.nextAnswer).isOk⟩] := rfl

/-- The transactions of these events go to DEV_ADDR and stay in the register map. -/
def MappedTraffic (c : Config) (events : List Event) : Prop :=
  ∀ x ∈ txShapes events, x.address = c.devAddr ∧ InRegisterMap c x.sent x.readCount

theorem mappedTraffic_nil (c : Config) : MappedTraffic c [] := by
  simp [MappedTraffic, txShapes]

theorem mappedTraffic_txEvent {s : State} {w : List Byte} {m : Nat} (k : TxKind) (h : InRegisterMap s.cfg w m) :
    MappedTraffic s.cfg [s.txEvent k w m] := by
  simpa [MappedTraffic, txShapes_txEvent] using h

/-- An emission adds no transaction. -/
theorem MappedTraffic.emit {c : Config} {events : List Event} (h : MappedTraffic c events) (l : Level) :
    MappedTraffic c (events ++ [.setLevel l]) := by
  simpa [MappedTraffic, txShapes_append, txShapes, txShape?] using h

/-- RST empties the history; every other effect appends events whose transactions stay in the register map. -/
theorem Effect.mappedTraffic {turn : Turn} {s t : State} (he : Effect turn s t) (h : BlockInv s) :
    t.hist = [] ∨ ∃ more, t.hist = s.hist ++ more ∧ MappedTraffic s.cfg more := by
  have boot {n : Nat} {x : TxShape} (hx : (bootShapes s.cfg)[n]? = some x) :
      MappedTraffic s.cfg [s.txEvent x.kind x.sent x.readCount] :=
    mappedTraffic_txEvent _ (bootShapes_inRegisterMap (List.mem_of_getElem? hx))
  have check : MappedTraffic s.cfg [s.txEvent .wr [regAddr s.cfg .algResultData] 2] :=
    mappedTraffic_txEvent _ (inRegisterMap_cons (by decide) (by simp) (by simp))
  cases he with
  | command k w m d _ hw hop hhead hlen hm =>
    obtain ⟨-, hreg, hfits⟩ := h.waiting_legal hw
    obtain ⟨herase, hprogram⟩ := ne_firmware_of_regAllows hop hreg
    have hle := le_eight_of_lenAllows hop (regWidth_le_eight h.cfg_wf _) hfits
    exact .inr ⟨_, rfl, mappedTraffic_txEvent k ⟨hlen, by omega, _, herase, hprogram, hhead⟩⟩
  | bootNext _ _ _ _ _ _ _ _ _ _ _ hx => exact .inr ⟨_, rfl, boot hx⟩
  | bootDone _ _ _ _ _ hx => exact .inr ⟨_, rfl, boot hx⟩
  | bootFail _ _ _ _ _ _ hx => exact .inr ⟨_, rfl, boot hx⟩
  | checkOk => exact .inr ⟨_, List.append_assoc .., check.emit _⟩
  | checkFail => exact .inr ⟨_, rfl, check⟩
  | assertRst => exact .inl rfl
  | _ => exact .inr ⟨[], (List.append_nil _).symm, mappedTraffic_nil _⟩

/-- Settles O47: what a step appends to the history stays in the register map, and the added transaction is in it. -/
theorem busTrafficStaysInTheRegisterMap : Obligations.BusTrafficStaysInTheRegisterMap := by
  intro s t x h hs hx
  have traffic : t.hist = [] ∨ ∃ more, t.hist = s.hist ++ more ∧ MappedTraffic s.cfg more := by
    obtain ⟨-, rfl⟩ | ⟨-, he⟩ := step_effect hs
    · exact .inr ⟨[], (List.append_nil _).symm, mappedTraffic_nil _⟩
    · exact he.mappedTraffic h.beginTurn
  obtain hnil | ⟨more, hmore, hmapped⟩ := traffic
  · rw [hnil] at hx
    simp [txShapes] at hx
  · rw [hmore, txShapes_append] at hx
    have hmem : x ∈ txShapes more := by simp [List.append_cancel_left hx]
    obtain ⟨haddress, hsent, hread, hregister⟩ := hmapped x hmem
    exact ⟨haddress, hsent, hread, hregister⟩

end Sys2Proof.Machine
end

section
/-! PROOF. Host writes register by register, and the accesses the window refuses or does not hold. -/

namespace Sys2Proof.Machine

-- The bytes a write of DATA0 or DATA1 leaves (R84, R86)

theorem setData0_getElem (v : Word) (b : Buf) (i : Nat) (h : i < 8) :
    (setData0 v b)[i] = if i < 4 then lane v i else b[i] := by
  interval_cases i <;> rfl

theorem setData1_getElem (v : Word) (b : Buf) (i : Nat) (h : i < 8) :
    (setData1 v b)[i] = if i < 4 then b[i] else lane v (i - 4) := by
  interval_cases i <;> rfl

/-- Settles O12, register by register. -/
theorem hostWritesHaveTheseEffectsOnly : Obligations.HostWritesHaveTheseEffectsOnly := by
  intro s v
  refine ⟨runTurn_write_cmd v, ⟨_, runTurn_write s (r := .data0) (by decide) v, fun i hi => ?_, fun i hi => ?_⟩,
    ⟨_, runTurn_write s (r := .data1) (by decide) v, fun i hi => ?_, fun i hi => ?_⟩, fun off hoff => ?_⟩
  · rw [setData0_getElem, if_pos hi, lane]
  · rw [setData0_getElem, if_neg (by omega)]
  · rw [setData1_getElem, if_pos hi]
  · rw [setData1_getElem, if_neg (by omega), lane]
  · simp only [List.mem_cons, List.not_mem_nil, or_false] at hoff
    rcases hoff with rfl | rfl | rfl | rfl | rfl
    · exact runTurn_write s (r := .status) (by decide) v
    · exact runTurn_write s (r := .result) (by decide) v
    · exact runTurn_write s (r := .diag) (by decide) v
    · exact runTurn_write s (r := .class_) (by decide) v
    · exact runTurn_write s (r := .reserved) (by decide) v

-- What an access reaches, by its address and width (R81, R82)

theorem hostTarget_refused (c : Config) {off width : Nat} (h : off < 32) (hbad : width ≠ 32 ∨ off % 4 ≠ 0) :
    hostTarget c (c.hostBase + off) width = .refused := by
  rw [hostTarget_offset c off width h, if_pos hbad]

theorem hostTarget_aligned (c : Config) {off : Nat} (h : off < 32) (hal : off % 4 = 0) :
    hostTarget c (c.hostBase + off) 32 = .reg (hostRegAt off) := by
  rw [hostTarget_offset c off 32 h, if_neg (by simp [hal])]

theorem hostTarget_outside {c : Config} {addr : Nat} (width : Nat)
    (h : addr < c.hostBase ∨ c.hostBase + 32 ≤ addr) : hostTarget c addr width = .outside := by
  rw [hostTarget, if_pos h]

/-- Settles O14: the target of the access decides it, and the target is a matter of its address and its width. -/
theorem onlyAlignedWordAccessesReachTheBlock : Obligations.OnlyAlignedWordAccessesReachTheBlock := by
  intro s off width v
  refine ⟨fun h hbad => ?_, fun h hw hal => ?_, fun addr h => ?_⟩
  · have target := hostTarget_refused s.cfg h hbad
    exact ⟨by simp only [runTurn, hostRead, target], by simp only [runTurn, hostWrite, target]⟩
  · subst hw
    exact ⟨{ s with hostOut := some (hostRegValue s (hostRegAt off)) },
      by simp only [runTurn, hostRead, hostTarget_aligned s.cfg h hal]⟩
  · have target := hostTarget_outside width h
    exact ⟨by simp only [runTurn, hostRead, target], by simp only [runTurn, hostWrite, target]⟩

end Sys2Proof.Machine
end

section
/-! PROOF. The decoder and the encoder agree: which words carry a command, by their fields and by the masks of R126. -/

namespace Sys2Proof

-- The command words by their fields (R121, R126, R127)

/-- The opcode is alone in its word's low half: NOP, BOOT or CLASSIFY, whose LEN and REG are 0 (R127). -/
abbrev Op.Bare (op : Op) : Prop := op = .nop ∨ op = .boot ∨ op = .classify

/-- The command of an opcode with these fields; one that does not take a field drops it. -/
def Op.command (imm : BitVec 16) (len : Nat) (reg : SensorReg) : Op → Instr
  | .nop => .nop
  | .wrcmd => .wrcmd reg len
  | .wrreg => .wrreg reg len
  | .wrmbox => .wrmbox reg len
  | .rdmbox => .rdmbox reg len
  | .boot => .boot
  | .classify => .classify imm

@[simp] theorem Op.command_op? (imm : BitVec 16) (len : Nat) (reg : SensorReg) (op : Op) :
    (op.command imm len reg).op? = some op := by cases op <;> rfl

theorem Op.command_wf (imm : BitVec 16) {len : Nat} (reg : SensorReg) (op : Op) (h : len < 16) :
    (op.command imm len reg).wf = true := by
  cases op <;> simp [Op.command, Instr.wf, h]

/-- The command of an opcode with the fields of a word. -/
def commandIn (w : Word) (op : Op) : Instr :=
  op.command (fieldImm w) (fieldLen w).toNat (SensorReg.ofCode (fieldReg w))

/-- The word carries a command of the opcode: the fields the command does not take are 0 (R127). -/
def LegalWord (op : Op) (w : Word) : Prop :=
  fieldOp w = op.code ∧ fieldRsv w = 0 ∧ (op ≠ .classify → fieldImm w = 0) ∧
  (op.Bare → fieldLen w = 0 ∧ fieldReg w = 0)

/-- The decoder answers the command of a legal word. -/
theorem LegalWord.decode_eq {op : Op} {w : Word} (h : LegalWord op w) : decode w = .ok (commandIn w op) := by
  obtain ⟨hop, hrsv, himm, hbare⟩ := h
  have himm' : ¬(fieldImm w ≠ 0 ∧ op ≠ .classify) := fun hs => hs.1 (himm hs.2)
  have hbare' : ¬((fieldLen w ≠ 0 ∨ fieldReg w ≠ 0) ∧ op.Bare) := fun hs =>
    hs.1.elim (· (hbare hs.2).1) (· (hbare hs.2).2)
  simp only [decode, (Op.ofCode?_eq_some_iff _ _).2 hop, hrsv, ne_eq, not_true_eq_false, if_false, if_neg himm',
    if_neg hbare']
  cases op <;> rfl

/-- Nothing else decodes: a legal word is what is left when each of the four checks of R127 has passed. -/
theorem legalWord_of_decode {w : Word} {i : Instr} (h : decode w = .ok i) :
    ∃ op, LegalWord op w ∧ i = commandIn w op := by
  unfold decode at h
  split at h
  · cases h
  next op hop =>
    split_ifs at h with hrsv himm hbare
    have legal : LegalWord op w :=
      ⟨(Op.ofCode?_eq_some_iff _ _).1 hop, not_not.1 hrsv, fun hc => by_contra fun hz => himm ⟨hz, hc⟩,
        fun hb => ⟨by_contra fun hz => hbare ⟨.inl hz, hb⟩, by_contra fun hz => hbare ⟨.inr hz, hb⟩⟩⟩
    refine ⟨op, legal, ?_⟩
    cases op <;> exact (Except.ok.inj h).symm

/-- A word decodes to a command of an opcode exactly when it is legal for the opcode. -/
theorem decodes_to_op_iff (op : Op) (w : Word) : (∃ i, decode w = .ok i ∧ i.op? = some op) ↔ LegalWord op w := by
  constructor
  · rintro ⟨i, hi, hop⟩
    obtain ⟨op', legal, rfl⟩ := legalWord_of_decode hi
    cases (Op.command_op? ..).symm.trans hop
    exact legal
  · exact fun h => ⟨_, h.decode_eq, Op.command_op? ..⟩

-- Assembling and taking apart

/-- A word with RSV = 0 is assembled from its fields. -/
theorem assemble_fields {op : Op} {w : Word} (hop : fieldOp w = op.code) (hrsv : fieldRsv w = 0) :
    assemble (fieldImm w) op (fieldLen w).toNat (fieldReg w) = w := by
  apply word_ext <;> simp [hop, hrsv]

/-- A legal word is the encoding of its command. -/
theorem LegalWord.encode_eq {op : Op} {w : Word} (h : LegalWord op w) : encode (commandIn w op) = some w := by
  obtain ⟨hop, hrsv, himm, hbare⟩ := h
  have whole := assemble_fields hop hrsv
  cases op with
  | nop | boot =>
    obtain ⟨hlen, hreg⟩ := hbare (by decide)
    rw [himm (by decide), hlen, hreg] at whole
    exact congrArg some whole
  | classify =>
    obtain ⟨hlen, hreg⟩ := hbare (by decide)
    rw [hlen, hreg] at whole
    exact congrArg some whole
  | _ => -- the four bus commands, which take LEN and REG
    rw [himm (by decide), ← SensorReg.code_ofCode (fieldReg w)] at whole
    exact congrArg some whole

/-- The decoder gives back the fields a word is assembled from, where the opcode takes them. -/
theorem decode_assemble {imm : BitVec 16} {op : Op} {len : Nat} {reg : SensorReg} (hlen : len < 16)
    (himm : op ≠ .classify → imm = 0) (hbare : op.Bare → len = 0 ∧ reg = .status) :
    decode (assemble imm op len reg.code) = .ok (op.command imm len reg) := by
  have legal : LegalWord op (assemble imm op len reg.code) := by
    refine ⟨by simp, by simp, by simpa using himm, fun hb => ?_⟩
    obtain ⟨rfl, rfl⟩ := hbare hb
    exact ⟨by simp, by simp [SensorReg.code]⟩
  rw [legal.decode_eq, commandIn]
  simp [Nat.mod_eq_of_lt hlen]

/-- Settles O1: each command's word is assembled from its operands, and the decoder gives them back. -/
theorem decodeOfEncodeIsTheCommand : Obligations.DecodeOfEncodeIsTheCommand := by
  intro i hwf hcommand
  cases i with
  | nop | boot => exact ⟨_, rfl, decode_assemble (reg := .status) (by decide) (by decide) (by decide)⟩
  | classify imm => exact ⟨_, rfl, decode_assemble (reg := .status) (by decide) (fun h => absurd rfl h) (by decide)⟩
  | wrcmd reg len | wrreg reg len | wrmbox reg len | rdmbox reg len =>
    exact ⟨_, rfl, decode_assemble (of_decide_eq_true hwf) (fun _ => rfl) (by simp)⟩
  | _ => cases hcommand -- the internal steps are no commands (R128)

/-- Settles O2: the word is legal, its command's LEN has four bits, and the word is assembled from its fields. -/
theorem encodeOfDecodeIsTheWord : Obligations.EncodeOfDecodeIsTheWord := by
  intro w i h
  have hcommand := decode_isCommand h
  obtain ⟨op, legal, rfl⟩ := legalWord_of_decode h
  exact ⟨Op.command_wf _ _ op (fieldLen w).isLt, hcommand, legal.encode_eq⟩

-- The masks of R126

/-- The bits of the word an opcode's row of R126 looks at. -/
def Op.mask : Op → Word
  | .nop | .boot => 0xFFFFFFFF#32
  | .classify => 0x0000FFFF#32
  | .wrcmd | .wrreg | .wrmbox | .rdmbox => 0xFFFFF0F0#32

/-- The match value of an opcode's row of R126: OP, and 0 in every other field. -/
def Op.matchValue : Op → Word
  | .nop => 0x00000000#32
  | .wrcmd => 0x00001000#32
  | .wrreg => 0x00002000#32
  | .wrmbox => 0x00003000#32
  | .rdmbox => 0x00004000#32
  | .boot => 0x00005000#32
  | .classify => 0x00006000#32

theorem word_eq_iff (w v : Word) : w = v ↔
    fieldImm w = fieldImm v ∧ fieldOp w = fieldOp v ∧ fieldLen w = fieldLen v ∧ fieldRsv w = fieldRsv v ∧
    fieldReg w = fieldReg v :=
  ⟨fun h => by simp [h], fun ⟨h1, h2, h3, h4, h5⟩ => word_ext h1 h2 h3 h4 h5⟩

@[simp] theorem fieldImm_and (w m : Word) : fieldImm (w &&& m) = fieldImm w &&& fieldImm m := BitVec.extractLsb'_and
@[simp] theorem fieldOp_and (w m : Word) : fieldOp (w &&& m) = fieldOp w &&& fieldOp m := BitVec.extractLsb'_and
@[simp] theorem fieldLen_and (w m : Word) : fieldLen (w &&& m) = fieldLen w &&& fieldLen m := BitVec.extractLsb'_and
@[simp] theorem fieldRsv_and (w m : Word) : fieldRsv (w &&& m) = fieldRsv w &&& fieldRsv m := BitVec.extractLsb'_and
@[simp] theorem fieldReg_and (w m : Word) : fieldReg (w &&& m) = fieldReg w &&& fieldReg m := BitVec.extractLsb'_and

theorem Op.matchValue_eq_assemble (op : Op) : op.matchValue = assemble 0 op 0 0 := by cases op <;> rfl

/-- The mask covers OP and RSV whole, IMM unless the opcode is CLASSIFY, and LEN and REG where they must be 0. -/
theorem Op.mask_fields (op : Op) :
    fieldImm op.mask = (if op ≠ .classify then BitVec.allOnes 16 else 0) ∧ fieldOp op.mask = BitVec.allOnes 4 ∧
    fieldLen op.mask = (if op.Bare then BitVec.allOnes 4 else 0) ∧ fieldRsv op.mask = BitVec.allOnes 4 ∧
    fieldReg op.mask = (if op.Bare then BitVec.allOnes 4 else 0) := by
  cases op <;> decide

/-- A field under a mask that covers it in case `c`: whether it is 0 is asked in that case only. -/
theorem and_covering_eq_zero_iff {n : Nat} (x : BitVec n) (c : Prop) [Decidable c] :
    (x &&& if c then BitVec.allOnes n else 0) = 0 ↔ (c → x = 0) := by
  split
  next hc => rw [BitVec.and_allOnes, imp_iff_right hc]
  next hc => simp [hc]

/-- A word is legal for an opcode exactly when it matches the opcode's row under its mask, field by field. -/
theorem legalWord_iff_match (op : Op) (w : Word) : LegalWord op w ↔ w &&& op.mask = op.matchValue := by
  obtain ⟨himm, hop, hlen, hrsv, hreg⟩ := op.mask_fields
  have hzero : BitVec.ofNat 4 0 = 0 := rfl
  simp only [word_eq_iff, op.matchValue_eq_assemble, fieldImm_and, fieldOp_and, fieldLen_and, fieldRsv_and,
    fieldReg_and, himm, hop, hlen, hrsv, hreg, fieldImm_assemble, fieldOp_assemble, fieldLen_assemble,
    fieldRsv_assemble, fieldReg_assemble, BitVec.and_allOnes, hzero, and_covering_eq_zero_iff, LegalWord, forall_and]
  tauto

/-- Settles O4: the words legal for an opcode are those that match its row. -/
theorem opcodeRowsMatchUnderTheirMasks : Obligations.OpcodeRowsMatchUnderTheirMasks := by
  intro w
  have row (op : Op) := (decodes_to_op_iff op w).trans (legalWord_iff_match op w)
  exact ⟨row .nop, row .wrcmd, row .wrreg, row .wrmbox, row .rdmbox, row .boot, row .classify⟩

/-- Settles O5: the decoder computes each of the fourteen answers. -/
theorem exampleWordsDecode : Obligations.ExampleWordsDecode := by
  refine ⟨?_, ?_, ?_, ?_, ?_, ?_, ?_, ?_, ?_, ?_, ?_, ?_, ?_, ?_⟩ <;> rfl

end Sys2Proof
end

section
/-! PROOF. The submission of a command word: which words check 1 rejects, when each later check fails, and what an accepted
command does (R184 to R189). -/

namespace Sys2Proof.Machine

-- Check 1 (R185): the words that carry no command

/-- The opcodes by their numbers (R126). -/
theorem code_toNat (op : Op) :
    op.code.toNat < 7 ∧ (op.code.toNat = 0 ↔ op = .nop) ∧ (op.code.toNat = 1 ↔ op = .wrcmd) ∧
    (op.code.toNat = 2 ↔ op = .wrreg) ∧ (op.code.toNat = 3 ↔ op = .wrmbox) ∧ (op.code.toNat = 4 ↔ op = .rdmbox) ∧
    (op.code.toNat = 5 ↔ op = .boot) ∧ (op.code.toNat = 6 ↔ op = .classify) := by
  cases op <;> decide

/-- Check 1 fails, over the word's fields (R185). -/
def IllegalFields (w : Word) : Prop :=
  7 ≤ (fieldOp w).toNat ∨ fieldRsv w ≠ 0 ∨ (fieldImm w ≠ 0 ∧ (fieldOp w).toNat ≠ 6) ∨
  (((fieldOp w).toNat = 0 ∨ (fieldOp w).toNat = 5 ∨ (fieldOp w).toNat = 6) ∧ (fieldLen w ≠ 0 ∨ fieldReg w ≠ 0))

/-- A word with a command's opcode carries that command unless check 1 fails. -/
theorem legalWord_iff_of_code {op : Op} {w : Word} (h : fieldOp w = op.code) : LegalWord op w ↔ ¬IllegalFields w := by
  obtain ⟨hlt, h0, -, -, -, -, h5, h6⟩ := code_toNat op
  simp only [LegalWord, IllegalFields, Op.Bare, h, h0, h5, h6, ne_eq]
  have : ¬7 ≤ op.code.toNat := by omega
  tauto

theorem illegalFields_iff (w : Word) : IllegalFields w ↔ ∀ op, ¬LegalWord op w := by
  refine ⟨fun h op legal => (legalWord_iff_of_code legal.1).1 legal h, fun h => ?_⟩
  cases hop : Op.ofCode? (fieldOp w) with
  | none => exact .inl ((Op.ofCode?_eq_none_iff _).1 hop)
  | some op => exact not_not.1 (mt (legalWord_iff_of_code ((Op.ofCode?_eq_some_iff _ _).1 hop)).2 (h op))

theorem exists_legalWord {w : Word} (h : ¬IllegalFields w) : ∃ op, LegalWord op w := by
  simpa [illegalFields_iff] using h

theorem decode_error_of_illegal {w : Word} (h : IllegalFields w) : ∃ e, decode w = .error e := by
  cases hd : decode w with
  | error e => exact ⟨e, rfl⟩
  | ok i =>
    obtain ⟨op, legal, -⟩ := legalWord_of_decode hd
    exact absurd legal ((illegalFields_iff w).1 h op)

theorem submitWord_of_illegal {w : Word} (h : IllegalFields w) (s : State) :
    submitWord w s = .next (if s.busy then s else { s with err := .illegal }) := by
  obtain ⟨e, he⟩ := decode_error_of_illegal h
  rw [submitWord, he]
  rfl

/-- Settles O3: the words check 1 rejects are those that carry no command. -/
theorem illegalWordsAreExactlyThese : Obligations.IllegalWordsAreExactlyThese := by
  intro w
  refine ⟨fun h => ⟨decode_error_of_illegal h, fun s hb => ?_⟩, fun h => ?_⟩
  · rw [submitWord_of_illegal h, hb]
    rfl
  · obtain ⟨op, legal⟩ := exists_legalWord h
    exact ⟨_, legal.decode_eq⟩

-- What a submitted command does

/-- The effect of an accepted command with these operands (R184, R191, R231, R312). -/
def State.accept (s : State) (imm : BitVec 16) (len : Nat) (reg : SensorReg) : Op → State
  | .nop => { s with err := .ok }
  | .boot => s.acceptBoot
  | .classify => { s with cres := Machine.classify imm, err := .ok }
  | .wrcmd => s.acceptBus .wrcmd reg len
  | .wrreg => s.acceptBus .wrreg reg len
  | .wrmbox => s.acceptBus .wrmbox reg len
  | .rdmbox => s.acceptBus .rdmbox reg len

section
variable {s : State} {imm : BitVec 16} {len : Nat} {reg : SensorReg} {op : Op}

/-- Every command goes through the one submission rule (R184). -/
theorem exec_command (s : State) (imm : BitVec 16) (len : Nat) (reg : SensorReg) (op : Op) :
    exec (op.command imm len reg) s = .next (s.submit op reg len fun t => t.accept imm len reg op) := by
  cases op <;> rfl

theorem exec_command_busy (hb : s.busy = true) : exec (op.command imm len reg) s = .next s := by
  rw [exec_command, State.submit_busy _ _ _ _ _ hb]

theorem exec_command_accepted (hb : s.busy = false) (ha : acceptance op reg len s = .ok) :
    exec (op.command imm len reg) s = .next (s.accept imm len reg op) := by
  rw [exec_command, State.submit_accepted _ _ _ _ _ hb ha]

theorem exec_command_rejected (hb : s.busy = false) {e : Err} (ha : acceptance op reg len s = e) (he : e ≠ .ok) :
    exec (op.command imm len reg) s = .next { s with err := e } := by
  subst ha
  rw [exec_command, State.submit_rejected _ _ _ _ _ hb he]
  rfl

-- Checks 2 to 5 (R186 to R189): when each fails

theorem stateAllows_eq_false_iff (op : Op) (s : State) :
    stateAllows op s = false ↔ (op ≠ .nop ∧ op ≠ .classify) ∧ s.phase ≠ .idle ∧ s.phase ≠ .failed := by
  cases op <;> simp [stateAllows, hostOwnsBus]

theorem dirWrites_eq_false_iff (d : Dir) : dirWrites d = false ↔ d ≠ .w ∧ d ≠ .rw := by cases d <;> simp [dirWrites]

theorem dirReads_eq_false_iff (d : Dir) : dirReads d = false ↔ d ≠ .r ∧ d ≠ .rw := by cases d <;> simp [dirReads]

theorem regAllows_eq_false_iff (op : Op) (r : SensorReg) (s : State) :
    regAllows op r s = false ↔ isBusOp op = true ∧ (r = .fwErase ∨ r = .fwProgram ∨
      (op = .wrcmd ∧ regDir s.cfg r ≠ .c) ∨
      ((op = .wrreg ∨ op = .wrmbox) ∧ regDir s.cfg r ≠ .w ∧ regDir s.cfg r ≠ .rw) ∨
      (op = .rdmbox ∧ regDir s.cfg r ≠ .r ∧ regDir s.cfg r ≠ .rw)) := by
  cases op <;>
    simp [regAllows, isBusOp, dirAllows, dirWrites_eq_false_iff, dirReads_eq_false_iff, imp_iff_not_or, or_assoc]

theorem lenAllows_eq_false_iff (op : Op) (r : SensorReg) (len : Nat) (s : State) :
    lenAllows op r len s = false ↔ (op = .wrcmd ∧ len ≠ 0) ∨ (op = .wrreg ∧ (len ≠ 1 ∨ regWidth s.cfg r ≠ 1)) ∨
      (op = .wrmbox ∧ len ≠ regWidth s.cfg r) ∨ (op = .rdmbox ∧ (len = 0 ∨ regWidth s.cfg r < len)) := by
  cases op <;> simp [lenAllows, imp_iff_not_or]

theorem notDriveMode_iff (b : Byte) : notDriveMode b = true ↔ 4 < (b.extractLsb' 4 3).toNat := decide_eq_true_iff

theorem valueAllows_eq_false_iff (op : Op) (r : SensorReg) (s : State) :
    valueAllows op r s = false ↔
      (op = .wrreg ∨ op = .wrmbox) ∧ r = .measMode ∧ 4 < (s.data[0].extractLsb' 4 3).toNat := by
  cases op <;> simp [valueAllows, notDriveMode_iff]

-- The verdict at the first check that fails (R184)

theorem acceptance_state (h : stateAllows op s = false) : acceptance op reg len s = .state := by
  simp [acceptance, h]

theorem acceptance_badReg (hst : stateAllows op s = true) (h : regAllows op reg s = false) :
    acceptance op reg len s = .badReg := by
  simp [acceptance, hst, h]

theorem acceptance_badLen (hst : stateAllows op s = true) (hreg : regAllows op reg s = true)
    (h : lenAllows op reg len s = false) : acceptance op reg len s = .badLen := by
  simp [acceptance, hst, hreg, h]

theorem acceptance_badValue (hst : stateAllows op s = true) (hreg : regAllows op reg s = true)
    (hlen : lenAllows op reg len s = true) (h : valueAllows op reg s = false) :
    acceptance op reg len s = .badValue := by
  simp [acceptance, hst, hreg, hlen, h]

/-- Check 2 passes for every command while the host may use the bus. -/
theorem stateAllows_of_owned (hp : s.phase = .idle ∨ s.phase = .failed) : stateAllows op s = true := by
  have hown := (hostOwnsBus_iff s).2 hp
  cases op <;> simp [stateAllows, hown]

/-- Check 3 passes for a register outside the firmware-update pair whose direction allows the operation. -/
theorem regAllows_of_dirAllows (he : reg ≠ .fwErase) (hp : reg ≠ .fwProgram)
    (hd : dirAllows op (regDir s.cfg reg) = true) : regAllows op reg s = true := by
  simp [regAllows, he, hp, hd]

theorem dirWrites_of {d : Dir} (h : d = .w ∨ d = .rw) : dirWrites d = true := by
  rcases h with rfl | rfl <;> rfl

theorem dirReads_of {d : Dir} (h : d = .r ∨ d = .rw) : dirReads d = true := by
  rcases h with rfl | rfl <;> rfl

end

/-- Settles O16: NOP always passes its checks, and a word of its opcode is legal only if it matches the row 0. -/
theorem nopClearsErrOnly : Obligations.NopClearsErrOnly := by
  intro s
  have legal_iff (w : Word) : LegalWord .nop w ↔ w = 0x00000000#32 := by
    rw [legalWord_iff_match]
    exact iff_of_eq (congrArg (· = 0x00000000#32) BitVec.and_allOnes)
  refine ⟨fun hb => exec_command_accepted (op := .nop) (imm := 0) (len := 0) (reg := .status) hb rfl,
    fun hb => exec_command_busy (op := .nop) (imm := 0) (len := 0) (reg := .status) hb,
    fun w => ⟨⟨fun h => ?_, fun h => ?_⟩, fun hop hne hb => ?_⟩⟩
  · exact (legal_iff w).1 ((decodes_to_op_iff .nop w).1 ⟨_, h, rfl⟩)
  · exact ((legal_iff w).2 h).decode_eq
  · have illegal : IllegalFields w :=
      not_not.1 (mt (legalWord_iff_of_code (op := .nop) hop).2 (mt (legal_iff w).1 hne))
    rw [submitWord_of_illegal illegal, hb]
    rfl

/-- Settles O23: check 2 comes before the operands are looked at, and NOP and CLASSIFY pass it in every state. -/
theorem busCommandsNeedIdleOrFailed : Obligations.BusCommandsNeedIdleOrFailed := by
  intro s hb hidle hfailed
  have rejected (op : Op) (r : SensorReg) (len : Nat) (hn : op ≠ .nop) (hc : op ≠ .classify) :
      exec (op.command 0 len r) s = .next { s with err := .state } :=
    exec_command_rejected hb (acceptance_state ((stateAllows_eq_false_iff op s).2 ⟨⟨hn, hc⟩, hidle, hfailed⟩))
      (by decide)
  refine ⟨fun r len => ⟨?_, ?_, ?_, ?_⟩, ?_, ?_, fun imm => ?_⟩
  · exact rejected .wrcmd r len (by decide) (by decide)
  · exact rejected .wrreg r len (by decide) (by decide)
  · exact rejected .wrmbox r len (by decide) (by decide)
  · exact rejected .rdmbox r len (by decide) (by decide)
  · exact rejected .boot .status 0 (by decide) (by decide)
  · exact exec_command_accepted (op := .nop) (imm := 0) (len := 0) (reg := .status) hb rfl
  · exact exec_command_accepted (op := .classify) (imm := imm) (len := 0) (reg := .status) hb rfl

/-- Settles O24: with check 2 passed, check 3 fails whatever LEN is. -/
theorem registerMustAllowTheOperation : Obligations.RegisterMustAllowTheOperation := by
  intro s r len hb hp firmware
  have rejected (op : Op) (h : regAllows op r s = false) :
      exec (op.command 0 len r) s = .next { s with err := .badReg } :=
    exec_command_rejected hb (acceptance_badReg (stateAllows_of_owned hp) h) (by decide)
  refine ⟨fun h => rejected .wrcmd ?_, fun h => ⟨rejected .wrreg ?_, rejected .wrmbox ?_⟩, fun h => rejected .rdmbox ?_⟩
  all_goals simpa [regAllows_eq_false_iff, isBusOp, firmware, or_assoc] using h

/-- Settles O25: with checks 2 and 3 passed, check 4 fails. -/
theorem lengthMustFitTheRegister : Obligations.LengthMustFitTheRegister := by
  intro s r len hb hp herase hprogram
  have rejected (op : Op) (hd : dirAllows op (regDir s.cfg r) = true) (h : lenAllows op r len s = false) :
      exec (op.command 0 len r) s = .next { s with err := .badLen } :=
    exec_command_rejected hb
      (acceptance_badLen (stateAllows_of_owned hp) (regAllows_of_dirAllows herase hprogram hd) h) (by decide)
  refine ⟨fun hd h => rejected .wrcmd (decide_eq_true hd) ?_, fun hd h => rejected .wrreg (dirWrites_of hd) ?_,
    fun hd h => rejected .wrmbox (dirWrites_of hd) ?_, fun hd h => rejected .rdmbox (dirReads_of hd) ?_⟩
  all_goals simpa [lenAllows_eq_false_iff] using h

/-- Settles O26: with checks 2 to 4 passed, check 5 fails. -/
theorem measModeWritesNameADriveMode : Obligations.MeasModeWritesNameADriveMode := by
  intro s hb hp hd hv
  have rejected (op : Op) (len : Nat) (hop : op = .wrreg ∨ op = .wrmbox)
      (hdir : dirAllows op (regDir s.cfg .measMode) = true) (hlen : lenAllows op .measMode len s = true) :
      exec (op.command 0 len .measMode) s = .next { s with err := .badValue } :=
    exec_command_rejected hb (acceptance_badValue (stateAllows_of_owned hp)
      (regAllows_of_dirAllows (by decide) (by decide) hdir) hlen
      ((valueAllows_eq_false_iff op .measMode s).2 ⟨hop, rfl, hv⟩)) (by decide)
  exact ⟨fun hwidth => rejected .wrreg 1 (.inl rfl) (dirWrites_of hd) (decide_eq_true ⟨rfl, hwidth⟩),
    rejected .wrmbox _ (.inr rfl) (dirWrites_of hd) (decide_eq_true rfl)⟩

-- The submission of a word, over its bits

/-- The groups of opcodes the checks name (R185 to R189). -/
theorem code_mem (op : Op) :
    (op.code.toNat ∈ [1, 2, 3, 4, 5] ↔ op ≠ .nop ∧ op ≠ .classify) ∧
    (op.code.toNat ∈ [1, 2, 3, 4] ↔ isBusOp op = true) ∧ (op.code.toNat ∈ [2, 3] ↔ op = .wrreg ∨ op = .wrmbox) := by
  cases op <;> decide

/-- The registers the checks name by their index (R124). -/
theorem index_eq_iff (c : BitVec 4) :
    (c.toNat = 1 ↔ SensorReg.ofCode c = .measMode) ∧ (c.toNat = 11 ↔ SensorReg.ofCode c = .fwErase) ∧
    (c.toNat = 12 ↔ SensorReg.ofCode c = .fwProgram) := by
  revert c; decide

/-- REG selects a register by its place in the enumeration (R124). -/
theorem getD_eq_ofCode (c : BitVec 4) :
    ([.status, .measMode, .algResultData, .rawData, .envData, .thresholds, .hwId, .hwVersion, .fwBootVersion,
      .fwAppVersion, .errorId, .fwErase, .fwProgram, .fwVerify, .appStart, .swReset] : List SensorReg).getD c.toNat
      .status = SensorReg.ofCode c := by
  revert c; decide

/-- A word that carries a command is submitted as that command (R184). -/
theorem submitWord_of_legal {op : Op} {w : Word} (h : LegalWord op w) (s : State) :
    submitWord w s = .next (
      if s.busy then s
      else if acceptance op (SensorReg.ofCode (fieldReg w)) (fieldLen w).toNat s = .ok then
        s.accept (fieldImm w) (fieldLen w).toNat (SensorReg.ofCode (fieldReg w)) op
      else { s with err := acceptance op (SensorReg.ofCode (fieldReg w)) (fieldLen w).toNat s }) := by
  rw [submitWord, h.decode_eq]
  exact (exec_command ..).trans (congrArg _ (s.submit_eq ..))

/-- Settles O27: a word is submitted to no effect but ILLEGAL if check 1 fails; else the verdict over its bits is the
verdict of the checks on the command it carries. -/
theorem submissionFollowsTheChecksInOrder : Obligations.SubmissionFollowsTheChecksInOrder := by
  intro s w imm op len rsv r reg dir width e
  rw [runTurn_write_cmd]
  have check1 : IllegalFields w ↔ 7 ≤ op ∨ rsv ≠ 0 ∨ (op ≠ 6 ∧ imm ≠ 0) ∨ (op ∈ [0, 5, 6] ∧ (len ≠ 0 ∨ r ≠ 0)) := by
    have nonzero {n : Nat} (x : BitVec n) : x.toNat ≠ 0 ↔ x ≠ 0 := by simp [BitVec.toNat_eq]
    simp only [List.mem_cons, List.not_mem_nil, or_false, len, rsv, r, nonzero, and_comm (a := op ≠ 6)]
    rfl
  by_cases hill : IllegalFields w
  · have he : e = .illegal := if_pos (check1.1 hill)
    rw [submitWord_of_illegal hill, he]
    rfl
  · obtain ⟨o, legal⟩ := exists_legalWord hill
    have hop : op = o.code.toNat := congrArg BitVec.toNat legal.1
    have hreg : reg = SensorReg.ofCode (fieldReg w) := getD_eq_ofCode _
    obtain ⟨-, h0, h1, h2, h3, h4, h5, h6⟩ := code_toNat o
    have he : e = acceptance o reg len s := by
      obtain ⟨hst, hbus, hwr⟩ := code_mem o
      obtain ⟨hmm, hfe, hfp⟩ : (r = 1 ↔ reg = .measMode) ∧ (r = 11 ↔ reg = .fwErase) ∧ (r = 12 ↔ reg = .fwProgram) :=
        hreg ▸ index_eq_iff (fieldReg w)
      simp only [e, if_neg (mt check1.2 hill), acceptance, Bool.not_eq_true', stateAllows_eq_false_iff,
        regAllows_eq_false_iff, lenAllows_eq_false_iff, valueAllows_eq_false_iff, hop, hst, hbus, hwr, h1, h2, h3, h4, hmm,
        hfe, hfp]
      rfl
    rw [submitWord_of_legal legal, ← hreg, he]
    simp only [ne_eq, ite_not, hop, h0, h1, h2, h3, h5, h6]
    cases o <;> rfl

end Sys2Proof.Machine
end

section
/-! PROOF. The command step of each latched bus command, and each bus command from its acceptance to its transaction
(R190, R192 to R195). -/

namespace Sys2Proof.Machine

/-- What a latched write sends after the register id; the other opcodes write nothing (R190). -/
def payload (len : Nat) (ldata : Buf) : Op → Option (List Byte)
  | .wrcmd => some []
  | .wrreg => some [ldata[0]]
  | .wrmbox => some (firstBytes len ldata)
  | .nop | .rdmbox | .boot | .classify => none

section
variable {s : State} {op : Op} {r : SensorReg} {len : Nat}

-- The end of a transaction (R14, R190)

theorem cmdDone_afterTx_ok {b : Buf} (ha : s.nextAnswer = .ok b) (k : TxKind) (w : List Byte) (m : Nat) :
    (s.afterTx k w m).cmdDone s.nextAnswer = { s with
      err := .ok, busy := false, hist := s.hist ++ [.tx k s.cfg.devAddr w m (.ok (firstBytes m b))],
      busQueue := s.busQueue.tail, txIdx := s.txIdx + 1 } := by
  rw [State.afterTx, s.txEvent_ok k w m b ha, ha]
  rfl

theorem cmdDone_afterTx_fail (ha : s.nextAnswer = .fail) (k : TxKind) (w : List Byte) (m : Nat) :
    (s.afterTx k w m).cmdDone s.nextAnswer = { s with
      err := .busFail, busy := false, hist := s.hist ++ [.tx k s.cfg.devAddr w m .fail],
      busQueue := s.busQueue.tail, txIdx := s.txIdx + 1 } := by
  rw [State.afterTx, s.txEvent_fail k w m ha, ha]
  rfl

-- The command step of a write and of a read

/-- A latched write is one write transaction: the register id, then the payload (R190). -/
theorem exec_cmdStep_write {p : List Byte} (hb : s.busy = true) (hp : s.phase = .idle ∨ s.phase = .failed)
    (hl : s.lcmd = ⟨op, r, len⟩) (hw : payload len s.ldata op = some p) :
    exec .cmdStep s = .next ((s.afterTx .w (regAddr s.cfg r :: p) 0).cmdDone s.nextAnswer) := by
  have hwait := (cmdWaiting_iff s).2 ⟨hb, hp⟩
  cases op with
  | wrcmd | wrreg | wrmbox =>
    cases hw
    simp [exec, execCmdStep, hwait, hl, State.stepWrcmd, State.stepWrreg, State.stepWrmbox, State.txWriteOnly,
      State.txWriteWrite]
  | _ => cases hw

/-- A latched read the bus answers with OK merges the bytes into DATA (R190, R195). -/
theorem exec_cmdStep_read_ok {b : Buf} (hb : s.busy = true) (hp : s.phase = .idle ∨ s.phase = .failed)
    (hl : s.lcmd = ⟨.rdmbox, r, len⟩) (ha : s.nextAnswer = .ok b) :
    exec .cmdStep s = .next { (s.afterTx .wr [regAddr s.cfg r] len).cmdDone s.nextAnswer with
      data := mergeBytes len b s.data } := by
  have hwait := (cmdWaiting_iff s).2 ⟨hb, hp⟩
  simp only [exec, execCmdStep, hwait, hl, if_true, State.stepRdmbox, State.txWriteRead, ha]
  rfl

/-- A latched read the bus answers with FAIL leaves DATA (R190, R195). -/
theorem exec_cmdStep_read_fail (hb : s.busy = true) (hp : s.phase = .idle ∨ s.phase = .failed)
    (hl : s.lcmd = ⟨.rdmbox, r, len⟩) (ha : s.nextAnswer = .fail) :
    exec .cmdStep s = .next ((s.afterTx .wr [regAddr s.cfg r] len).cmdDone s.nextAnswer) := by
  have hwait := (cmdWaiting_iff s).2 ⟨hb, hp⟩
  simp [exec, execCmdStep, hwait, hl, State.stepRdmbox, State.txWriteRead, ha]

end

/-- Settles O28: the write rows are one lemma with their payload, RDMBOX splits by the Bus answer. -/
theorem commandStepPerformsOneTransaction : Obligations.CommandStepPerformsOneTransaction := by
  intro s r len p hb hp hlen hplen hpay done writeOutcome
  have hfirst : p = firstBytes len s.ldata := eq_firstBytes hlen hplen hpay
  have write {op : Op} {q : List Byte} (hl : s.lcmd = ⟨op, r, len⟩) (hw : payload len s.ldata op = some q) :
      exec .cmdStep s = .next (done .w (regAddr s.cfg r :: q) 0 writeOutcome) := by
    rw [exec_cmdStep_write hb hp hl hw]
    cases ha : s.nextAnswer with
    | ok b =>
      rw [← ha, cmdDone_afterTx_ok ha]
      simp [done, writeOutcome, ha]
    | fail =>
      rw [← ha, cmdDone_afterTx_fail ha]
      simp [done, writeOutcome, ha]
  refine ⟨fun hl => write hl rfl, fun hl => write hl rfl, fun hl => write hl (congrArg some hfirst.symm),
    fun hl ha => ?_, fun b hl ha => ⟨mergeBytes len b s.data, firstBytes len b, mergeBytes_getElem len b s.data,
      firstBytes_length len b hlen, firstBytes_getElem? len b, ?_⟩⟩
  · rw [exec_cmdStep_read_fail hb hp hl ha, cmdDone_afterTx_fail ha]
    rfl
  · rw [exec_cmdStep_read_ok hb hp hl ha, cmdDone_afterTx_ok ha]
    rfl

-- From acceptance to the transaction

section
variable {s : State} {r : SensorReg} {len : Nat}

theorem accept_bus {op : Op} (s : State) (imm : BitVec 16) (len : Nat) (r : SensorReg) (h : isBusOp op = true) :
    s.accept imm len r op = s.acceptBus op r len := by
  cases op <;> simp_all [isBusOp, State.accept]

/-- A bus command that passes its checks is latched with its payload (R184). -/
theorem exec_bus_accepted {op : Op} (hbus : isBusOp op = true) (hb : s.busy = false)
    (hp : s.phase = .idle ∨ s.phase = .failed) (he : r ≠ .fwErase) (hf : r ≠ .fwProgram)
    (hd : dirAllows op (regDir s.cfg r) = true) (hlen : lenAllows op r len s = true)
    (hv : valueAllows op r s = true) : exec (op.command 0 len r) s = .next (s.acceptBus op r len) := by
  rw [exec_command_accepted hb
    ((acceptance_eq_ok_iff ..).2 ⟨stateAllows_of_owned hp, regAllows_of_dirAllows he hf hd, hlen, hv⟩),
    accept_bus s 0 len r hbus]

/-- An accepted write sends its payload as latched, whatever DATA has become; the bus answers with OK (R190). -/
theorem acceptedWrite_ok {op : Op} {p : List Byte} {b : Buf} (hp : s.phase = .idle ∨ s.phase = .failed)
    (hw : payload len s.data op = some p) (ha : s.nextAnswer = .ok b) (d : Buf) :
    exec .cmdStep { s.acceptBus op r len with data := d } = .next { s.acceptBus op r len with
      data := d, err := .ok, busy := false,
      hist := s.hist ++ [.tx .w s.cfg.devAddr (regAddr s.cfg r :: p) 0 (.ok [])],
      busQueue := s.busQueue.tail, txIdx := s.txIdx + 1 } := by
  rw [exec_cmdStep_write (s := { s.acceptBus op r len with data := d }) rfl hp rfl hw,
    cmdDone_afterTx_ok (s := { s.acceptBus op r len with data := d }) ha]
  rfl

/-- The same where the bus answers with FAIL (R190). -/
theorem acceptedWrite_fail {op : Op} {p : List Byte} (hp : s.phase = .idle ∨ s.phase = .failed)
    (hw : payload len s.data op = some p) (ha : s.nextAnswer = .fail) (d : Buf) :
    exec .cmdStep { s.acceptBus op r len with data := d } = .next { s.acceptBus op r len with
      data := d, err := .busFail, busy := false,
      hist := s.hist ++ [.tx .w s.cfg.devAddr (regAddr s.cfg r :: p) 0 .fail],
      busQueue := s.busQueue.tail, txIdx := s.txIdx + 1 } := by
  rw [exec_cmdStep_write (s := { s.acceptBus op r len with data := d }) rfl hp rfl hw,
    cmdDone_afterTx_fail (s := { s.acceptBus op r len with data := d }) ha]
  rfl

/-- Check 5 passes where a MEAS_MODE payload names a drive mode (R189). -/
theorem valueAllows_of_driveField {op : Op} (h : r = .measMode → (s.data[0].extractLsb' 4 3).toNat ≤ 4) :
    valueAllows op r s = true := by
  rw [← Bool.not_eq_false, valueAllows_eq_false_iff]
  rintro ⟨-, hr, hv⟩
  exact absurd (h hr) (by omega)

end

/-- Settles O19: WRCMD's payload is empty. -/
theorem wrcmdIsLatchedThenSent : Obligations.WrcmdIsLatchedThenSent := by
  intro s r hb hp he hf hd a
  exact ⟨exec_bus_accepted (op := .wrcmd) rfl hb hp he hf (decide_eq_true hd) rfl rfl,
    fun _ ha => acceptedWrite_ok (op := .wrcmd) hp rfl ha s.data,
    fun ha => acceptedWrite_fail (op := .wrcmd) hp rfl ha s.data⟩

/-- Settles O20: WRREG's payload is the first latched byte. -/
theorem wrregIsLatchedThenSent : Obligations.WrregIsLatchedThenSent := by
  intro s r hb hp he hf hd hwidth hv a
  exact ⟨exec_bus_accepted (op := .wrreg) rfl hb hp he hf (dirWrites_of hd) (decide_eq_true ⟨rfl, hwidth⟩)
      (valueAllows_of_driveField hv),
    fun _ ha d => acceptedWrite_ok (op := .wrreg) hp rfl ha d,
    fun ha d => acceptedWrite_fail (op := .wrreg) hp rfl ha d⟩

/-- Settles O21: WRMBOX's payload is the first LEN latched bytes. -/
theorem wrmboxIsLatchedThenSent : Obligations.WrmboxIsLatchedThenSent := by
  intro s r hb hp he hf hd hwidth hv len a
  exact ⟨exec_bus_accepted (op := .wrmbox) rfl hb hp he hf (dirWrites_of hd) (decide_eq_true rfl)
      (valueAllows_of_driveField hv),
    firstBytes len s.data, firstBytes_length len s.data hwidth, firstBytes_getElem? len s.data,
    fun _ ha d => acceptedWrite_ok (op := .wrmbox) hp rfl ha d,
    fun ha d => acceptedWrite_fail (op := .wrmbox) hp rfl ha d⟩

/-- Settles O22: the read merges the bytes into the DATA of the command step, or leaves it. -/
theorem rdmboxIsLatchedThenRead : Obligations.RdmboxIsLatchedThenRead := by
  intro s r len hb hp he hf hd hpos hle hwidth a
  refine ⟨exec_bus_accepted (op := .rdmbox) rfl hb hp he hf (dirReads_of hd) (decide_eq_true ⟨hpos, hle⟩) rfl,
    fun b ha d => ⟨mergeBytes len b d, firstBytes len b, mergeBytes_getElem len b d,
      firstBytes_length len b (hle.trans hwidth), firstBytes_getElem? len b, ?_⟩, fun ha d => ?_⟩
  · rw [exec_cmdStep_read_ok (s := { a with data := d }) rfl hp rfl ha,
      cmdDone_afterTx_ok (s := { a with data := d }) ha]
  · rw [exec_cmdStep_read_fail (s := { a with data := d }) rfl hp rfl ha,
      cmdDone_afterTx_fail (s := { a with data := d }) ha]

end Sys2Proof.Machine
end

section
/-! PROOF. The steps that are not enabled (log 4, log 13). -/

namespace Sys2Proof.Machine

/-- A step whose condition does not hold is not taken (log 4). -/
theorem not_taken {c : Prop} [Decidable c] {s t : State} (h : ¬c) :
    (.next (if c then t else s) : Host.Outcome State Fault Refusal) = .next s := by
  rw [if_neg h]

section
variable {s : State}

/-- A boot row is not at the cursor unless the block boots and BSTEP is the row's (R233). -/
theorem not_bootAt {k : BitVec 4} (h : s.phase ≠ .boot ∨ s.bstep ≠ k) : ¬s.bootAt k = true := by
  simpa [State.bootAt, imp_iff_not_or] using h

/-- The rows of the boot transactions T1 to T7. -/
def bootRows : List Instr :=
  [.bootT1Hwid, .bootT2Status, .bootT3FwVerify, .bootT4AppStart, .bootT5MeasMode, .bootT6ErrId, .bootT7ModeEcho]

/-- No row is taken where the block is at no row's cursor. -/
theorem exec_bootRows_not_at (h : s.phase ≠ .boot ∨ s.bstep.toNat % 2 = 1) : ∀ i ∈ bootRows, exec i s = .next s := by
  have off (k : BitVec 4) (hk : k.toNat % 2 = 0) : ¬s.bootAt k = true := by
    refine not_bootAt (h.imp id fun hodd he => ?_)
    rw [he, hk] at hodd
    cases hodd
  simp only [bootRows, List.forall_mem_cons, List.not_mem_nil, false_implies, implies_true, and_true]
  exact ⟨not_taken (off 0 rfl), not_taken (off 2 rfl), not_taken (off 4 rfl), not_taken (off 6 rfl),
    not_taken (off 8 rfl), not_taken (off 10 rfl), not_taken (off 12 rfl)⟩

/-- BOOT_TX names a row at the even cursors up to 12 only (R232, R233). -/
theorem exec_bootTx_no_row (h : s.bstep.toNat % 2 = 1 ∨ 12 < s.bstep.toNat) : exec .bootTx s = .next s := by
  simp only [exec, execBootTx]
  generalize s.bstep.toNat = k at h
  split
  · split
    case h_8 => rfl
    all_goals omega -- the seven rows' cursors
  · rfl

theorem exec_bootFail_not_enabled (h : s.phase ≠ .boot ∨ s.bstep.toNat % 2 = 1 ∨ 12 < s.bstep.toNat) :
    exec .bootFail s = .next s := by
  refine not_taken fun ⟨hp, he, hk⟩ => ?_
  rcases h with h | h
  · exact h hp
  · omega

theorem exec_bootDelay_not_enabled (h : s.phase ≠ .boot ∨ s.bstep.toNat % 2 = 0 ∨ s.dcnt ≠ 0) :
    exec .bootDelay s = .next s := by
  refine not_taken fun ⟨hp, ho, hd⟩ => ?_
  rcases h with h | h
  · exact h hp
  · omega

end

/-- Settles O35: outside its enabling condition each step's meaning is the branch that leaves the state. -/
theorem stepsNotEnabledLeaveTheState : Obligations.StepsNotEnabledLeaveTheState := by
  intro s
  have row {k : BitVec 4} (h : s.bstep ≠ k) : ¬s.bootAt k = true := not_bootAt (.inr h)
  refine ⟨fun hp => ?_, fun hodd => ?_, fun h => not_taken (row h), fun h => not_taken (row h),
    fun h => not_taken (row h), fun h => not_taken (row h), fun h => not_taken (row h), fun h => not_taken (row h),
    fun h => not_taken (row h), fun h => ⟨exec_bootTx_no_row (.inr h), exec_bootFail_not_enabled (.inr (.inr h))⟩,
    fun h => exec_bootDelay_not_enabled (.inr h), fun h => not_taken ?_, fun h => not_taken ?_, fun h => not_taken h,
    fun h => not_taken ?_, fun h => not_taken ?_⟩
  · refine List.forall_mem_cons.2 ⟨not_taken hp, (List.forall_mem_append (l₁ := bootRows)
      (l₂ := [.bootFail, .bootDelay])).2 ⟨exec_bootRows_not_at (.inl hp), ?_⟩⟩
    exact List.forall_mem_cons.2
      ⟨exec_bootFail_not_enabled (.inl hp), List.forall_mem_singleton.2 (exec_bootDelay_not_enabled (.inl hp))⟩
  · exact List.forall_mem_cons.2 ⟨exec_bootTx_no_row (.inl hodd), (List.forall_mem_append (l₁ := bootRows)
      (l₂ := [.bootFail])).2 ⟨exec_bootRows_not_at (.inr hodd),
        List.forall_mem_singleton.2 (exec_bootFail_not_enabled (.inr (.inl hodd)))⟩⟩
  · simpa [cmdWaiting_iff, imp_iff_not_or] using h
  · simpa [imp_iff_not_or] using h
  · simpa [imp_iff_not_or] using h
  · simpa [imp_iff_not_or] using h

end Sys2Proof.Machine
end

section
/-! PROOF. The fields of a MEAS_MODE byte (R182, R183). -/

namespace Sys2Proof.Machine

/-- A byte put together as R182 says, with any drive code, has it in bits 6:4 and the enables in bits 3 and 2. -/
theorem measMode_fields (code : BitVec 3) (interrupt thresh : Bool) :
    let b : Byte := 0#1 ++ code ++ BitVec.ofBool interrupt ++ BitVec.ofBool thresh ++ 0#2
    driveField b = code ∧ b.getLsbD 3 = interrupt ∧ b.getLsbD 2 = thresh := by
  revert code interrupt thresh; decide

/-- The drive modes have the codes 0 to 4 (R183). -/
theorem driveCode_le (d : DriveMode) : (driveCode d).toNat ≤ 4 := by cases d <;> decide

/-- Settles O53: the fields are those put in, and the drive code is that of a drive mode. -/
theorem measModeByteFields : Obligations.MeasModeByteFields := by
  refine ⟨fun d interrupt thresh => ?_, rfl⟩
  obtain ⟨hdrive, hinterrupt, hthresh⟩ := measMode_fields (driveCode d) interrupt thresh
  refine ⟨hdrive, hinterrupt, hthresh, decide_eq_false ?_⟩
  have := driveCode_le d
  rw [← hdrive] at this
  exact Nat.not_lt.2 this

end Sys2Proof.Machine
end

section
/-! PROOF. The boot sequence: what each boot row, the delay step, the tick and a BOOT command do (R231 to R243). -/

namespace Sys2Proof.Machine

-- The boot transactions as the table lists them (R232, R244)

/-- What a successful boot transaction does with the byte it read, row by row (R234 to R240). -/
def onBootByte : Nat → Byte → State → State
  | 0, b, t => { t with hwid := b }.bootAdvance t.cfg.dHwid
  | 1, b, t => { t with dstat := b }.bootAdvance t.cfg.dStatus
  | 2, _, t => t.bootAdvance t.cfg.dVerify
  | 3, _, t => t.bootAdvance t.cfg.dAppstart
  | 4, _, t => t.bootAdvance t.cfg.dMode
  | 5, b, t => { t with errid := b }.bootAdvance t.cfg.dErrid
  | _, b, t => t.bootComplete b

/-- The state after a transaction with this outcome (R14). -/
def State.recordTx (s : State) (x : TxShape) (o : TxOutcome) : State :=
  { s with hist := s.hist ++ [.tx x.kind s.cfg.devAddr x.sent x.readCount o], busQueue := s.busQueue.tail,
           txIdx := s.txIdx + 1 }

/-- The boot has seven transactions, all to DEV_ADDR and all successful (R244). -/
theorem bootShapes_getElem? {c : Config} {n : Nat} {x : TxShape} (hx : (bootShapes c)[n]? = some x) :
    n < 7 ∧ x.address = c.devAddr ∧ x.success = true := by
  obtain ⟨hn, -⟩ := List.getElem?_eq_some_iff.1 hx
  have hmem := List.mem_of_getElem? hx
  simp only [bootShapes, List.mem_cons, List.not_mem_nil, or_false] at hmem
  refine ⟨hn, ?_⟩
  rcases hmem with rfl | rfl | rfl | rfl | rfl | rfl | rfl
  all_goals exact ⟨rfl, rfl⟩

/-- The n-th failing transaction of a boot, after the successful ones before it (R244). -/
theorem failedBootShapes_succ {c : Config} {n : Nat} {x : TxShape} (hx : (bootShapes c)[n]? = some x) :
    failedBootShapes c (n + 1) = (bootShapes c).take n ++ [{ x with success := false }] := by
  simp [failedBootShapes, hx]

/-- The cursor 2n belongs to the transaction n + 1 (R233). -/
theorem bootNumber_eq {k : BitVec 4} {n : Nat} (hk : k.toNat = 2 * n) : bootNumber k = BitVec.ofNat 3 (n + 1) := by
  apply BitVec.eq_of_toNat_eq
  simp [bootNumber, hk, Nat.shiftRight_eq_div_pow]

section
variable {s : State}

-- The boot rows

/-- At the cursor 2n BOOT_TX and the row n + 1 are one: its transaction, then its effect or boot failure (R233). -/
theorem exec_bootRow {n : Nat} {x : TxShape} {i : Instr} (hp : s.phase = .boot) (hk : s.bstep.toNat = 2 * n)
    (hx : (bootShapes s.cfg)[n]? = some x) (hi : i = .bootTx ∨ bootRows[n]? = some i) :
    exec i s = .next (bootEnd (s.nextAnswer, s.afterTx x.kind x.sent x.readCount) (onBootByte n)) := by
  have hat : s.bootAt (BitVec.ofNat 4 (2 * n)) = true :=
    decide_eq_true ⟨hp, BitVec.eq_of_toNat_eq (by simp [← hk])⟩
  obtain ⟨hlt, -⟩ := bootShapes_getElem? hx
  have hn : n = 0 ∨ n = 1 ∨ n = 2 ∨ n = 3 ∨ n = 4 ∨ n = 5 ∨ n = 6 := by omega
  rcases hi with rfl | hi
  · simp only [exec, execBootTx, hp, hk, if_true]
    rcases hn with rfl | rfl | rfl | rfl | rfl | rfl | rfl
    all_goals
      cases hx
      rfl
  · rcases hn with rfl | rfl | rfl | rfl | rfl | rfl | rfl
    all_goals
      cases hx
      cases hi
      exact congrArg Host.Outcome.next (if_pos hat)

theorem exec_bootRow_ok {n : Nat} {x : TxShape} {row : Instr} {b : Buf} (hp : s.phase = .boot)
    (hk : s.bstep.toNat = 2 * n) (hx : (bootShapes s.cfg)[n]? = some x) (hrow : bootRows[n]? = some row)
    (ha : s.nextAnswer = .ok b) : ∀ i ∈ [.bootTx, row],
      exec i s = .next (onBootByte n b[0] (s.recordTx x (.ok (firstBytes x.readCount b)))) := by
  intro i hi
  have hi : i = .bootTx ∨ bootRows[n]? = some i := by simpa [hrow, eq_comm] using hi
  rw [exec_bootRow hp hk hx hi, bootEnd_ok _ ha, State.afterTx, s.txEvent_ok _ _ _ b ha]
  rfl

theorem exec_bootRow_fail {n : Nat} {x : TxShape} {i : Instr} (hp : s.phase = .boot)
    (hk : s.bstep.toNat = 2 * n) (hx : (bootShapes s.cfg)[n]? = some x) (hi : i = .bootTx ∨ bootRows[n]? = some i)
    (ha : s.nextAnswer = .fail) : exec i s = .next (s.recordTx x .fail).bootFailure := by
  rw [exec_bootRow hp hk hx hi, bootEnd_fail _ ha, State.afterTx, s.txEvent_fail _ _ _ ha]
  rfl

/-- Boot failure at the cursor of the k-th transaction names it (R241). -/
theorem bootFailure_eq {k : Nat} (h1 : 1 ≤ k) (hk : s.bstep.toNat = 2 * (k - 1)) :
    s.bootFailure = { s with
      phase := .failed, bfstep := BitVec.ofNat 3 k, err := .busFail, busy := false, bstep := 0, dcnt := 0 } := by
  rw [State.bootFailure, bootNumber_eq hk, Nat.sub_add_cancel h1]

-- The tick

/-- A tick takes one from DCNT, which stays 0 at 0 (R243). -/
theorem exec_tick (s : State) : exec .tick s = .next { s with dcnt := s.dcnt - 1 } := by
  by_cases hd : s.dcnt = 0
  · rw [show s.dcnt - 1 = s.dcnt by omega]
    exact not_taken (by omega)
  · exact congrArg Host.Outcome.next (if_pos (Nat.pos_of_ne_zero hd))

-- BOOT

theorem acceptance_boot (hp : s.phase = .idle ∨ s.phase = .failed) : acceptance .boot .status 0 s = .ok :=
  (acceptance_eq_ok_iff ..).2 ⟨stateAllows_of_owned hp, rfl, rfl, rfl⟩

/-- While BUSY no word does anything (R184, R394). -/
theorem submitWord_busy (hb : s.busy = true) (w : Word) : submitWord w s = .next s := by
  by_cases h : IllegalFields w
  · rw [submitWord_of_illegal h, if_pos hb]
  · obtain ⟨op, legal⟩ := exists_legalWord h
    rw [submitWord_of_legal legal, if_pos hb]

/-- BOOT's row of R126 looks at every bit of the word. -/
theorem legalWord_boot_iff (w : Word) : LegalWord .boot w ↔ w = 0x00005000#32 :=
  (legalWord_iff_match .boot w).trans (iff_of_eq (congrArg (· = 0x00005000#32) BitVec.and_allOnes))

theorem decode_eq_boot_iff (w : Word) : decode w = .ok .boot ↔ w = 0x00005000#32 := by
  rw [← legalWord_boot_iff]
  exact ⟨fun h => (decodes_to_op_iff .boot w).1 ⟨_, h, rfl⟩, LegalWord.decode_eq⟩

end

/-- Settles O36: a tick takes one from n + 1, and is not taken at 0. -/
theorem tickCountsTheDelayDown : Obligations.TickCountsTheDelayDown := by
  refine fun s => ⟨fun n hd => ?_, fun hd => not_taken (by omega)⟩
  rw [exec_tick, hd, Nat.add_sub_cancel]

/-- Settles O33: an even cursor up to 12 enables the row. -/
theorem bootFailRowIsTheFailureEffect : Obligations.BootFailRowIsTheFailureEffect := by
  intro s k h1 h7 hp hk
  have enabled : s.phase = .boot ∧ s.bstep.toNat % 2 = 0 ∧ s.bstep.toNat ≤ 12 := ⟨hp, by omega, by omega⟩
  rw [← bootFailure_eq h1 hk]
  exact congrArg Host.Outcome.next (if_pos enabled)

/-- Settles O18: BOOT's only check that can fail is check 2, and its word is the one its row of R126 matches. -/
theorem bootStartsTheSequence : Obligations.BootStartsTheSequence := by
  intro s
  refine ⟨fun hb hp => ?_, fun hb hp => ?_, fun hb => ?_, fun w => ⟨decode_eq_boot_iff w, fun hop hne hb => ?_⟩⟩
  · exact exec_command_accepted (op := .boot) (imm := 0) hb (acceptance_boot hp)
  · have hloop : s.phase ≠ .idle ∧ s.phase ≠ .failed := by rcases hp with hp | hp <;> simp [hp]
    have refused : stateAllows .boot s = false := (stateAllows_eq_false_iff .boot s).2 ⟨by decide, hloop⟩
    exact exec_command_rejected (op := .boot) (imm := 0) (len := 0) (reg := .status) hb (acceptance_state refused)
      (by decide)
  · exact exec_command_busy (op := .boot) (imm := 0) (len := 0) (reg := .status) hb
  · have illegal : IllegalFields w :=
      not_not.1 (mt (legalWord_iff_of_code (op := .boot) hop).2 (mt (legalWord_boot_iff w).1 hne))
    rw [submitWord_of_illegal illegal, hb]
    rfl

/-- Settles O34: with DCNT = 0 the delay step is enabled, else the Sequencer has none. -/
theorem bootDelayWaitsForTheCounter : Obligations.BootDelayWaitsForTheCounter := by
  intro s hp ho
  exact ⟨fun hd => congrArg Host.Outcome.next (if_pos ⟨hp, ho, hd⟩),
    fun hd => runTurn_sequencer_none (sequencerInstr_delayed hp ho hd), submitWord_busy⟩

/-- Settles O32: the event is the k-th transaction's, failed, which ends the shapes of the failed boot. -/
theorem bootFailureNamesTheTransaction : Obligations.BootFailureNamesTheTransaction := by
  intro s k h1 h7 hp hk ha rows
  obtain ⟨x, hx⟩ : ∃ x, (bootShapes s.cfg)[k - 1]? = some x :=
    ⟨_, List.getElem?_eq_getElem (show k - 1 < 7 by omega)⟩
  obtain ⟨-, haddr, -⟩ := bootShapes_getElem? hx
  refine ⟨.tx x.kind s.cfg.devAddr x.sent x.readCount .fail, ?_, fun i hi => ?_⟩
  · have hlast := failedBootShapes_succ hx
    rw [Nat.sub_add_cancel h1] at hlast
    rw [hlast, List.getLast?_concat, ← haddr]
    rfl
  · rw [exec_bootRow_fail hp hk hx hi ha, bootFailure_eq (s := s.recordTx x .fail) h1 hk]
    rfl

/-- Settles O31: T7 is the transaction at the cursor 12. -/
theorem bootCompletionArmsTheLoop : Obligations.BootCompletionArmsTheLoop := by
  intro s b hp hk ha
  simpa [onBootByte, State.recordTx, State.bootComplete] using
    exec_bootRow_ok (n := 6) hp (congrArg BitVec.toNat hk) rfl rfl ha

/-- Settles O29: T1, T2 and T6 are the transactions at the cursors 0, 2 and 10. -/
theorem bootReadsCaptureTheirByte : Obligations.BootReadsCaptureTheirByte := by
  intro s b hp ha read
  refine ⟨fun hk => ?_, fun hk => ?_, fun hk => ?_⟩
  · simpa [onBootByte, State.recordTx, State.bootAdvance, hk, read] using
      exec_bootRow_ok (n := 0) hp (congrArg BitVec.toNat hk) rfl rfl ha
  · simpa [onBootByte, State.recordTx, State.bootAdvance, hk, read] using
      exec_bootRow_ok (n := 1) hp (congrArg BitVec.toNat hk) rfl rfl ha
  · simpa [onBootByte, State.recordTx, State.bootAdvance, hk, read] using
      exec_bootRow_ok (n := 5) hp (congrArg BitVec.toNat hk) rfl rfl ha

/-- Settles O30: T3, T4 and T5 are the transactions at the cursors 4, 6 and 8. -/
theorem bootWritesSendTheirBytes : Obligations.BootWritesSendTheirBytes := by
  intro s b hp ha sent
  refine ⟨fun hk => ?_, fun hk => ?_, fun hk => ?_⟩
  · simpa [onBootByte, State.recordTx, State.bootAdvance, hk, sent] using
      exec_bootRow_ok (n := 2) hp (congrArg BitVec.toNat hk) rfl rfl ha
  · simpa [onBootByte, State.recordTx, State.bootAdvance, hk, sent] using
      exec_bootRow_ok (n := 3) hp (congrArg BitVec.toNat hk) rfl rfl ha
  · simpa [onBootByte, State.recordTx, State.bootAdvance, hk, sent] using
      exec_bootRow_ok (n := 4) hp (congrArg BitVec.toNat hk) rfl rfl ha

end Sys2Proof.Machine
end

section
/-! PROOF. A boot under way: nothing but its ticks moves it in a delay, and it issues its transactions in order (R242,
R244). -/

namespace Sys2Proof.Machine

-- A boot under way

/-- A boot runs and RST is released. -/
structure Booting (s : State) : Prop where
  phase : s.phase = .boot
  busy : s.busy = true
  released : s.rst = false

/-- The turn leaves a running boot where it is: only a tick counts, against DCNT (R243). -/
structure BootStays (turn : Turn) (s t : State) : Prop extends Booting t where
  bstep : t.bstep = s.bstep
  hist : t.hist = s.hist
  cfg : t.cfg = s.cfg
  dcnt : t.dcnt = s.dcnt - [turn].count .tick

/-- No agent but the Sequencer moves a running boot short of RST (R394). -/
theorem Booting.stays {turn : Turn} {s t : State} (h : Booting s) (hseq : turn ≠ .sequencer) (hrst : turn ≠ .rst true)
    (ht : runTurn turn s = .next t) : BootStays turn s t := by
  by_cases htick : turn = .tick
  · subst htick
    cases (exec_tick s).symm.trans ht
    exact { h with bstep := rfl, hist := rfl, cfg := rfl, dcnt := rfl }
  have hcount : s.dcnt = s.dcnt - [turn].count .tick := by simp [htick]
  obtain ⟨hp, hb, hr⟩ := h
  cases runTurn_effect ht with
  | none | read | data | evt | deliver => exact ⟨⟨hp, hb, hr⟩, rfl, rfl, rfl, hcount⟩
  | releaseRst => exact ⟨⟨hp, hb, rfl⟩, rfl, rfl, rfl, hcount⟩
  | err _ _ _ _ _ hnb | classify _ _ _ _ _ hnb | acceptBus _ _ _ _ _ _ _ hnb | acceptBoot _ _ _ _ hnb =>
    simp [hb] at hnb
  | assertRst => exact absurd rfl hrst
  | tick => exact absurd rfl htick
  | _ => exact absurd rfl hseq

/-- No agent, the Sequencer included, moves a boot in its delay short of RST (R242, R394). -/
theorem Booting.stays_delayed {turn : Turn} {s t : State} (h : Booting s) (ho : s.bstep.toNat % 2 = 1)
    (hd : s.dcnt ≠ 0) (hrst : turn ≠ .rst true) (ht : runTurn turn s = .next t) : BootStays turn s t := by
  by_cases hseq : turn = .sequencer
  · subst hseq
    cases (runTurn_sequencer_none (sequencerInstr_delayed h.phase ho hd)).symm.trans ht
    exact ⟨h, rfl, rfl, rfl, rfl⟩
  · exact h.stays hseq hrst ht

/-- The outputs a turn withdraws are no matter to a boot. -/
theorem BootStays.of_turnTaken {turn : Turn} {s t : State} (h : BootStays turn s.turnTaken t) : BootStays turn s t :=
  { h with }

theorem runTurns_cons {turn : Turn} {turns : List Turn} {s t : State} (h : runTurns (turn :: turns) s = some t) :
    ∃ u, stepWith turn s = .next u ∧ runTurns turns u = some t := by
  simp only [runTurns] at h
  split at h
  next u hu => exact ⟨u, hu, h⟩
  all_goals cases h

/-- Settles O37, by induction over the turns: while ticks are owed each turn leaves the boot in its delay. -/
theorem noBootTransactionBeforeItsTicks : Obligations.NoBootTransactionBeforeItsTicks := by
  intro turns
  induction turns with
  | nil =>
    intro s t hp _ _ _ _ _ ht
    cases ht
    exact ⟨hp, rfl, rfl, rfl⟩
  | cons turn turns ih =>
    intro s t hp hb ho hr hrst hticks ht
    obtain ⟨hrst₁, hrst⟩ := List.forall_mem_cons.1 hrst
    have hcount : (turn :: turns).count .tick = [turn].count .tick + turns.count .tick :=
      List.count_append (l₁ := [turn])
    obtain ⟨u, hu, ht⟩ := runTurns_cons ht
    rw [stepWith_released turn hr] at hu
    have delayed : Booting s.turnTaken := ⟨hp, hb, hr⟩
    obtain ⟨⟨hp', hb', hr'⟩, hk, hh, -, hd⟩ :=
      (delayed.stays_delayed ho (Nat.ne_of_gt (Nat.zero_lt_of_lt hticks)) hrst₁ hu).of_turnTaken
    obtain ⟨hpt, hkt, hht, hdt⟩ := ih u t hp' hb' (hk ▸ ho) hr' hrst (by omega) ht
    exact ⟨hpt, hkt.trans hk, hht.trans hh, by omega⟩

-- A boot from its start

/-- The transactions added to the history since `s0` are these. -/
def BootTraffic (s0 s : State) (l : List TxShape) : Prop := txShapes s.hist = txShapes s0.hist ++ l

/-- The boot begun in `s0` is under way, the transactions before its cursor done (R244). -/
structure BootUnderWay (s0 s : State) : Prop extends Booting s where
  cfg : s.cfg = s0.cfg
  range : s.bstep.toNat ≤ 12
  traffic : BootTraffic s0 s ((bootShapes s0.cfg).take ((s.bstep.toNat + 1) / 2))

/-- The boot begun in `s0` has ended, complete or with its first failing transaction (R240, R241, R244). -/
def BootEnded (s0 s : State) : Prop :=
  (s.phase = .armed ∧ BootTraffic s0 s (bootShapes s0.cfg)) ∨
  (s.phase = .failed ∧ ∃ k, 1 ≤ k ∧ k ≤ 7 ∧ s.bfstep.toNat = k ∧ BootTraffic s0 s (failedBootShapes s0.cfg k))

theorem BootEnded.phase_ne_boot {s0 s : State} (h : BootEnded s0 s) : s.phase ≠ .boot := by
  rcases h with ⟨hp, -⟩ | ⟨hp, -⟩ <;> simp [hp]

section
variable {s0 s : State}

/-- A transaction is recorded after those before it. -/
theorem BootTraffic.afterTx {l : List TxShape} (h : BootTraffic s0 s l) (k : TxKind) (w : List Byte) (m : Nat) :
    BootTraffic s0 (s.afterTx k w m) (l ++ txShapes [s.txEvent k w m]) := by
  rw [BootTraffic, State.afterTx_hist, txShapes_append, h, List.append_assoc]

/-- A boot transaction the bus answers with OK is the one the table lists. -/
theorem txShapes_boot_ok {n : Nat} {x : TxShape} {b : Buf} (hx : (bootShapes s.cfg)[n]? = some x)
    (ha : s.nextAnswer = .ok b) : txShapes [s.txEvent x.kind x.sent x.readCount] = [x] := by
  obtain ⟨-, haddr, hok⟩ := bootShapes_getElem? hx
  rw [txShapes_txEvent, ha, ← haddr]
  exact congrArg (fun ok => [{ x with success := ok }]) hok.symm

/-- A boot transaction the bus answers with FAIL is the one the table lists, failed. -/
theorem txShapes_boot_fail {n : Nat} {x : TxShape} (hx : (bootShapes s.cfg)[n]? = some x)
    (ha : s.nextAnswer = .fail) :
    txShapes [s.txEvent x.kind x.sent x.readCount] = [{ x with success := false }] := by
  obtain ⟨-, haddr, -⟩ := bootShapes_getElem? hx
  rw [txShapes_txEvent, ha, ← haddr]
  rfl

/-- The Sequencer moves a boot by one transaction or one delay, or ends it. -/
theorem BootUnderWay.sequencer {t : State} (h : BootUnderWay s0 s) (he : Effect .sequencer s t) :
    BootUnderWay s0 t ∨ BootEnded s0 t := by
  obtain ⟨⟨hp, hb, hr⟩, hc, hrange, htraffic⟩ := h
  have traffic {n : Nat} (hk : s.bstep.toNat = 2 * n) : BootTraffic s0 s ((bootShapes s0.cfg).take n) := by
    rwa [show (s.bstep.toNat + 1) / 2 = n by omega] at htraffic
  cases he with
  | none => exact .inl ⟨⟨hp, hb, hr⟩, hc, hrange, htraffic⟩
  | bootNext n x _ _ _ _ _ _ _ hn hk hx ha =>
    have hnext : (s.bstep + 1).toNat = 2 * n + 1 := by simp; omega
    refine .inl ⟨⟨hp, hb, hr⟩, hc, (by omega : (s.bstep + 1).toNat ≤ 12), ?_⟩
    show BootTraffic s0 _ ((bootShapes s0.cfg).take (((s.bstep + 1).toNat + 1) / 2))
    rw [hnext, show (2 * n + 1 + 1) / 2 = n + 1 by omega, List.take_add_one, ← hc, hx, hc, Option.toList_some,
      ← txShapes_boot_ok hx ha]
    exact (traffic hk).afterTx ..
  | bootDone x b _ _ hk hx ha =>
    refine .inr (.inl ⟨rfl, ?_⟩)
    have hall : bootShapes s0.cfg = (bootShapes s0.cfg).take 6 ++ txShapes [s.txEvent x.kind x.sent x.readCount] := by
      rw [txShapes_boot_ok hx ha, ← Option.toList_some x, ← hx, hc, ← List.take_add_one]
      rfl
    rw [hall]
    exact (traffic (n := 6) (by simp [hk])).afterTx ..
  | bootFail n x _ _ hn hk hx ha =>
    refine .inr (.inr ⟨rfl, n + 1, by omega, by omega, ?_, ?_⟩)
    · show (bootNumber s.bstep).toNat = n + 1
      rw [bootNumber_eq hk]
      simp; omega
    · rw [failedBootShapes_succ (hc ▸ hx), ← txShapes_boot_fail hx ha]
      exact (traffic hk).afterTx ..
  | bootDelay _ _ ho =>
    have hnext : (s.bstep + 1).toNat = s.bstep.toNat + 1 := by simp; omega
    refine .inl ⟨⟨hp, hb, hr⟩, hc, (by omega : (s.bstep + 1).toNat ≤ 12), ?_⟩
    show BootTraffic s0 s ((bootShapes s0.cfg).take (((s.bstep + 1).toNat + 1) / 2))
    rwa [hnext, show (s.bstep.toNat + 1 + 1) / 2 = (s.bstep.toNat + 1) / 2 by omega]
  | command _ _ _ _ _ hw => simp [cmdWaiting_iff, hp] at hw
  | wake _ hq | checkOk _ _ hq | checkFail _ hq | checkIdle _ hq | rearm _ hq => simp [hp] at hq

/-- A turn that leaves a boot where it is leaves it under way. -/
theorem BootUnderWay.of_stays {turn : Turn} {t : State} (h : BootUnderWay s0 s) (ht : BootStays turn s t) :
    BootUnderWay s0 t := by
  obtain ⟨hbooting, hk, hh, hc, -⟩ := ht
  refine ⟨hbooting, hc.trans h.cfg, hk ▸ h.range, ?_⟩
  rw [BootTraffic, hk, hh]
  exact h.traffic

/-- A step of a boot short of RST keeps it under way or ends it. -/
theorem BootUnderWay.step {turn : Turn} {t : State} (h : BootUnderWay s0 s) (hrst : turn ≠ .rst true)
    (ht : stepWith turn s = .next t) : BootUnderWay s0 t ∨ BootEnded s0 t := by
  rw [stepWith_released turn h.released] at ht
  have h : BootUnderWay s0 s.turnTaken := { h with }
  by_cases hseq : turn = .sequencer
  · subst hseq
    exact h.sequencer (runTurn_effect ht)
  · exact .inl (h.of_stays (h.toBooting.stays hseq hrst ht))

/-- A boot's run keeps it under way until it ends, by induction over the run. -/
theorem BootRun.underWay_or_ended (hrun : BootRun s0 s) (h0 : BootUnderWay s0 s0) :
    BootUnderWay s0 s ∨ BootEnded s0 s := by
  induction hrun with
  | start => exact .inl h0
  | step s t turn _ hp hrst ht ih =>
    rcases ih with h | h
    · exact h.step hrst ht
    · exact absurd hp h.phase_ne_boot

end

/-- Settles O38: a boot is under way or ended along its run, and each says what the history holds. -/
theorem bootIssuesItsTransactionsInOrder : Obligations.BootIssuesItsTransactionsInOrder := by
  intro s0 s hp hk hb hr hrun
  have start : BootUnderWay s0 s0 :=
    ⟨⟨hp, hb, hr⟩, rfl, by simp [hk], by simp [BootTraffic, hk]⟩
  exact (hrun.underWay_or_ended start).imp (fun h => ⟨h.phase, h.traffic⟩) id

end Sys2Proof.Machine
end

section
/-! PROOF. The read loop step by step: event capture, delivery, wake, check and re-arm, and what no other turn does to
DRDY, PEND and the loop (R271 to R279). -/

namespace Sys2Proof.Machine

section
variable {s : State}

-- The check step

theorem exec_loopCheck (hp : s.phase = .service) (hs : s.sstep = .check) :
    exec .loopCheck s = .next { (if s.drdy then s.readResult else s) with sstep := .rearm } :=
  congrArg Host.Outcome.next (if_pos ⟨hp, hs⟩)

theorem State.readResult_ok {b : Buf} (ha : s.nextAnswer = .ok b) :
    s.readResult =
      { s.afterTx .wr [regAddr s.cfg .algResultData] algLen with drdy := false }.newReading b[0] b[1] := by
  simp only [State.readResult, State.txWriteRead, ha]

theorem State.readResult_fail (ha : s.nextAnswer = .fail) :
    s.readResult = { s.afterTx .wr [regAddr s.cfg .algResultData] algLen with drdy := false } := by
  simp only [State.readResult, State.txWriteRead, ha]

end

/-- Settles O39: capture sets PEND with no condition. -/
theorem evtPulseSetsPendOnly : Obligations.EvtPulseSetsPendOnly := fun _ => rfl

/-- Settles O40: IE and PEND are the delivery's whole condition. -/
theorem deliveryMovesPendToDrdy : Obligations.DeliveryMovesPendToDrdy :=
  fun _ hi hp => congrArg Host.Outcome.next (if_pos (by rw [hi, hp]; rfl))

/-- Settles O41: ARMED is the wake step's whole condition, and DRDY has no part in it. -/
theorem wakeMasksBeforeInspecting : Obligations.WakeMasksBeforeInspecting :=
  fun _ hp => congrArg Host.Outcome.next (if_pos hp)

/-- Settles O43: SERVICE at REARM is the re-arm step's whole condition. -/
theorem rearmUnmasksAfterActing : Obligations.RearmUnmasksAfterActing :=
  fun _ hp hs => congrArg Host.Outcome.next (if_pos ⟨hp, hs⟩)

/-- Settles O42: with DRDY set the check step is the read attempt, whose event follows the Bus answer. -/
theorem checkReadsClassifiesAndEmits : Obligations.CheckReadsClassifiesAndEmits := by
  intro s hp hs
  rw [exec_loopCheck hp hs]
  refine ⟨fun b hd ha => ?_, fun hd ha => ?_, fun hd => ?_⟩
  · rw [if_pos hd, State.readResult_ok ha, State.afterTx, s.txEvent_ok _ _ _ b ha, algLen, firstBytes_two]
    simp only [State.newReading, State.emit, List.append_assoc]
    rfl
  · rw [if_pos hd, State.readResult_fail ha, State.afterTx, s.txEvent_fail _ _ _ ha]
    rfl
  · rw [if_neg (by simp [hd])]

-- The handoff from PEND to DRDY to the read (R279)

/-- What a turn may do to the flags of a pending event, items 1, 2 and 4 of R279. -/
structure EventHandoff (turn : Turn) (s t : State) : Prop where
  rises : s.drdy = false → t.drdy = true → turn = .deliver ∧ s.ie = true ∧ s.pend = true
  falls : s.drdy = true → t.drdy = false → issuesRuntimeRead turn s = true ∧
    ∃ o, (.tx .wr s.cfg.devAddr [regAddr s.cfg .algResultData] 2 o : Event) ∈ t.hist.drop s.hist.length
  delivered : s.pend = true → t.pend = false → turn = .deliver ∧ s.ie = true ∧ t.drdy = true

section
variable {turn : Turn} {s t : State}

/-- A turn that keeps DRDY and does not clear PEND owes nothing to R279. -/
theorem eventHandoff_of_kept (hd : t.drdy = s.drdy) (hp : s.pend = true → t.pend = true) : EventHandoff turn s t where
  rises h h' := by simp [hd, h] at h'
  falls h h' := by simp [hd, h] at h'
  delivered h h' := by simp [hp h] at h'

/-- A turn that issues the runtime read and records it hands DRDY over. -/
theorem eventHandoff_of_read {more : List Event} (hread : issuesRuntimeRead turn s = true) (hd : t.drdy = false)
    (hp : t.pend = s.pend) (hh : t.hist = s.hist ++ s.txEvent .wr [regAddr s.cfg .algResultData] 2 :: more) :
    EventHandoff turn s t where
  rises _ h := by simp [hd] at h
  falls _ _ := ⟨hread, txOutcome 2 s.nextAnswer, by rw [hh, List.drop_left]; exact List.mem_cons_self⟩
  delivered h h' := by simp [hp, h] at h'

/-- Every effect short of RST's hands the event over as R279 says: only delivery and the check step touch DRDY, only
capture and delivery touch PEND. -/
theorem Effect.eventHandoff (he : Effect turn s t) (hr : s.rst = false ∨ ∃ level, turn = .rst level)
    (ht : turn ≠ .rst true) : EventHandoff turn s t := by
  have reads (hseq : turn = .sequencer) (hp : s.phase = .service) (hs : s.sstep = .check) (hd : s.drdy = true) :
      issuesRuntimeRead turn s = true := by
    have hr : s.rst = false := by simpa [hseq] using hr
    exact decide_eq_true ⟨hseq, hp, hs, hd, hr⟩
  cases he with
  | evt => exact eventHandoff_of_kept rfl fun _ => rfl
  | deliver _ hi hp =>
    exact
      { rises := fun _ _ => ⟨rfl, hi, hp⟩
        falls := fun _ h => by simp at h
        delivered := fun _ _ => ⟨rfl, hi, rfl⟩ }
  | checkOk _ _ hp hs hd => exact eventHandoff_of_read (reads rfl hp hs hd) rfl rfl (List.append_assoc ..)
  | checkFail _ hp hs hd => exact eventHandoff_of_read (reads rfl hp hs hd) rfl rfl rfl
  | assertRst => exact absurd rfl ht
  | _ => exact eventHandoff_of_kept rfl id

/-- The outputs a turn withdraws are no part of the handoff. -/
theorem EventHandoff.of_beginTurn (h : EventHandoff turn s.beginTurn t) : EventHandoff turn s t := { h with }

theorem step_eventHandoff (ht : s.nextTurn ≠ .rst true) (hs : step s = .next t) : EventHandoff s.nextTurn s t := by
  obtain ⟨-, rfl⟩ | ⟨hr, he⟩ := step_effect hs
  · exact eventHandoff_of_kept rfl id
  · exact (he.eventHandoff hr ht).of_beginTurn

-- The loop has no way out but RST (R278)

/-- In the loop an effect short of RST's is one of the Sequencer's loop steps, or it keeps STATE and SSTEP: the boot's
and the bus commands' conditions do not hold there. -/
theorem Effect.in_loop (he : Effect turn s t) (hp : s.phase = .armed ∨ s.phase = .service) (ht : turn ≠ .rst true) :
    (t.phase = s.phase ∧ t.sstep = s.sstep) ∨ (turn = .sequencer ∧ (t.phase = .armed ∨ t.phase = .service)) := by
  cases he with
  | wake => exact .inr ⟨rfl, .inr rfl⟩
  | checkOk _ _ hq | checkFail _ hq | checkIdle _ hq => exact .inr ⟨rfl, .inr hq⟩
  | rearm => exact .inr ⟨rfl, .inl rfl⟩
  | acceptBoot _ _ _ _ _ hown => rcases hp with hp | hp <;> simp [hostOwnsBus_iff, hp] at hown
  | bootNext _ _ _ _ _ _ _ _ hq | bootDone _ _ _ hq | bootFail _ _ _ hq | bootDelay _ hq => simp [hq] at hp
  | assertRst => exact absurd rfl ht
  | _ => exact .inl ⟨rfl, rfl⟩

theorem Effect.stays_in_loop (he : Effect turn s t) (hp : s.phase = .armed ∨ s.phase = .service)
    (ht : turn ≠ .rst true) : t.phase = .armed ∨ t.phase = .service := by
  obtain ⟨hkept, -⟩ | ⟨-, hmoved⟩ := he.in_loop hp ht
  · rwa [hkept]
  · exact hmoved

end

/-- Settles O44: the handoff of a step, item by item. -/
theorem drdyAndPendChangeOnlyByDeliveryAndRead : Obligations.DrdyAndPendChangeOnlyByDeliveryAndRead := by
  intro s t ht hs
  obtain ⟨rises, falls, delivered⟩ := step_eventHandoff ht hs
  exact ⟨rises, falls, delivered⟩

/-- Settles O45: a held step changes no STATE, and every effect short of RST's stays in the loop. -/
theorem onlyResetLeavesTheLoop : Obligations.OnlyResetLeavesTheLoop := by
  intro s t hp ht hs
  obtain ⟨-, rfl⟩ | ⟨-, he⟩ := step_effect hs
  · exact hp
  · exact he.stays_in_loop hp ht

end Sys2Proof.Machine
end

section
/-! PROOF. Runs of the read loop: a fair Sequencer goes round and round, a delivered event is read, and an undelivered
one waits while wakes outrun its delivery (R281, log 14). -/

namespace Sys2Proof.Machine

-- The loop's round (R270)

/-- The Sequencer's steps of the read loop. -/
inductive LoopStep where
  | wake
  | check
  | rearm
  deriving DecidableEq

/-- The step's enabling condition (R274, R275, R276). -/
def LoopStep.Enabled : LoopStep → State → Prop
  | .wake, s => s.phase = .armed
  | .check, s => s.phase = .service ∧ s.sstep = .check
  | .rearm, s => s.phase = .service ∧ s.sstep = .rearm

/-- The step that follows in the round. -/
def LoopStep.next : LoopStep → LoopStep
  | .wake => .check
  | .check => .rearm
  | .rearm => .wake

theorem LoopStep.cycle (l l' : LoopStep) : l' = l ∨ l' = l.next ∨ l' = l.next.next := by
  cases l <;> cases l' <;> decide

section
variable {l : LoopStep} {s t : State}

theorem LoopStep.exists_enabled (hp : s.phase = .armed ∨ s.phase = .service) : ∃ l : LoopStep, l.Enabled s := by
  rcases hp with hp | hp
  · exact ⟨.wake, hp⟩
  · cases hs : s.sstep with
    | check => exact ⟨.check, hp, hs⟩
    | rearm => exact ⟨.rearm, hp, hs⟩

theorem LoopStep.Enabled.congr (h : l.Enabled s) (hp : t.phase = s.phase) (hs : t.sstep = s.sstep) : l.Enabled t := by
  cases l <;> simpa only [LoopStep.Enabled, hp, hs] using h

/-- The enabled step is the Sequencer's, and the next of the round is enabled after it. -/
theorem LoopStep.Enabled.sequencer_exec (h : l.Enabled s) :
    ∃ i, sequencerInstr s = some i ∧ ∀ t, exec i s = .next t → l.next.Enabled t := by
  cases l with
  | wake =>
    refine ⟨_, sequencerInstr_armed h, fun t ht => ?_⟩
    cases (wakeMasksBeforeInspecting s h).symm.trans ht
    exact ⟨rfl, rfl⟩
  | check =>
    obtain ⟨hp, hs⟩ := h
    refine ⟨_, sequencerInstr_check hp hs, fun t ht => ?_⟩
    cases (exec_loopCheck hp hs).symm.trans ht
    refine ⟨?_, rfl⟩
    change (if s.drdy then s.readResult else s).phase = .service
    split
    · exact s.readResult_frame.1.trans hp
    · exact hp
  | rearm =>
    obtain ⟨hp, hs⟩ := h
    refine ⟨_, sequencerInstr_rearm hp hs, fun t ht => ?_⟩
    cases (rearmUnmasksAfterActing s hp hs).symm.trans ht
    rfl

theorem LoopStep.Enabled.sequencerInstr_ne_none (h : l.Enabled s) : sequencerInstr s ≠ none := by
  obtain ⟨i, hi, -⟩ := h.sequencer_exec
  simp [hi]

/-- A Sequencer turn moves the loop to the next step of its round. -/
theorem LoopStep.Enabled.sequencer_turn (h : l.Enabled s) (ht : runTurn .sequencer s = .next t) : l.next.Enabled t := by
  obtain ⟨i, hi, hnext⟩ := h.sequencer_exec
  exact hnext t ((runTurn_sequencer_some hi).symm.trans ht)

end

/-- The block is in the read loop with RST released. -/
structure Looping (s : State) : Prop where
  phase : s.phase = .armed ∨ s.phase = .service
  released : s.rst = false

/-- From the `m`-th turn on, this step of the loop is taken at some time. -/
def StepComes (schedule : Nat → Turn) (run : Nat → State) (l : LoopStep) (m : Nat) : Prop :=
  ∃ k, m ≤ k ∧ schedule k = .sequencer ∧ l.Enabled (run k)

-- Runs in the loop

section
variable {schedule : Nat → Turn} {run : Nat → State} (hrun : IsRun schedule run) (hnr : NeverResets schedule)
include hrun hnr

theorem IsRun.eventHandoff (m : Nat) : EventHandoff (schedule m) (run m) (run (m + 1)) :=
  { step_eventHandoff (s := { run m with agenda := schedule m :: (run m).agenda }) (hnr m true) (hrun m) with }

variable {n m : Nat} (hloop : Looping (run n)) (hm : n ≤ m)
include hloop hm

/-- A run in the loop stays there. -/
theorem IsRun.looping : Looping (run m) := by
  induction m, hm using Nat.le_induction with
  | base => exact hloop
  | succ m _ ih =>
    have he := stepWith_effect ih.released (hrun m)
    exact ⟨he.stays_in_loop ih.phase (hnr m true), (he.rst_eq (hnr m)).trans ih.released⟩

theorem IsRun.step_waits {l : LoopStep} (hl : l.Enabled (run m)) (hturn : schedule m ≠ .sequencer) :
    l.Enabled (run (m + 1)) := by
  have hlm := hrun.looping hnr hloop hm
  obtain ⟨hp, hs⟩ | ⟨hseq, -⟩ := (stepWith_effect hlm.released (hrun m)).in_loop hlm.phase (hnr m true)
  · exact hl.congr hp hs
  · exact absurd hseq hturn

theorem IsRun.step_taken {l : LoopStep} (hl : l.Enabled (run m)) (hturn : schedule m = .sequencer) :
    l.next.Enabled (run (m + 1)) := by
  have hs := hrun m
  rw [hturn, stepWith_released _ (hrun.looping hnr hloop hm).released] at hs
  exact LoopStep.Enabled.sequencer_turn (s := (run m).turnTaken) (hl.congr rfl rfl) hs

variable (hseq : SequencerWeaklyFair schedule run)
include hseq

/-- An enabled loop step waits until the fair Sequencer takes it. -/
theorem IsRun.enabled_step_comes {l : LoopStep} (hl : l.Enabled (run m)) : StepComes schedule run l m := by
  by_contra hnever
  have waits {k : Nat} (hk : m ≤ k) : l.Enabled (run k) := by
    induction k, hk using Nat.le_induction with
    | base => exact hl
    | succ k hk ih => exact hrun.step_waits hnr hloop (hm.trans hk) ih fun hturn => hnever ⟨k, hk, hturn, ih⟩
  obtain ⟨k, hk, hturn⟩ := hseq m fun _ hk => (waits hk).sequencerInstr_ne_none
  exact hnever ⟨k, hk, hturn, waits hk⟩

/-- After a loop step comes the next of its round. -/
theorem IsRun.next_step_comes {l : LoopStep} (h : StepComes schedule run l m) : StepComes schedule run l.next m := by
  obtain ⟨k, hk, hturn, hl⟩ := h
  have hnext := hrun.step_taken hnr hloop (hm.trans hk) hl hturn
  obtain ⟨j, hj, h⟩ := hrun.enabled_step_comes hnr hloop (by omega) hseq hnext
  exact ⟨j, by omega, h⟩

/-- A fair Sequencer takes every step of the loop again and again. -/
theorem IsRun.step_comes (l : LoopStep) : StepComes schedule run l m := by
  obtain ⟨l₀, hl₀⟩ := LoopStep.exists_enabled (hrun.looping hnr hloop hm).phase
  have h₀ := hrun.enabled_step_comes hnr hloop hm hseq hl₀
  have h₁ := hrun.next_step_comes hnr hloop hm hseq h₀
  have h₂ := hrun.next_step_comes hnr hloop hm hseq h₁
  obtain rfl | rfl | rfl := l₀.cycle l
  · exact h₀
  · exact h₁
  · exact h₂

-- From the event to the read

/-- A delivered event is read: DRDY waits for a check step, and one comes. -/
theorem IsRun.drdy_is_read (hd : (run m).drdy = true) :
    ∃ k, m ≤ k ∧ issuesRuntimeRead (schedule k) (run k) = true := by
  by_contra! hnone
  have waits {k : Nat} (hk : m ≤ k) : (run k).drdy = true := by
    induction k, hk using Nat.le_induction with
    | base => exact hd
    | succ k hk ih =>
      by_contra hfell
      exact hnone k hk ((hrun.eventHandoff hnr k).falls ih (by simpa using hfell)).1
  obtain ⟨k, hk, hturn, hp, hs⟩ := hrun.step_comes hnr hloop hm hseq .check
  exact hnone k hk (decide_eq_true ⟨hturn, hp, hs, waits hk, (hrun.looping hnr hloop (hm.trans hk)).released⟩)

/-- A delivery taken while enabled sets DRDY, and so a read follows. -/
theorem IsRun.delivery_is_read (hturn : schedule m = .deliver) (hen : deliveryEnabled (run m) = true) :
    ∃ k, m < k ∧ issuesRuntimeRead (schedule k) (run k) = true := by
  obtain ⟨hie, hpend⟩ : (run m).ie = true ∧ (run m).pend = true := by simpa [deliveryEnabled] using hen
  have hs := hrun m
  rw [hturn, stepWith_released _ (hrun.looping hnr hloop hm).released] at hs
  have hd : (run (m + 1)).drdy = true := by
    have := (deliveryMovesPendToDrdy (run m).turnTaken hie hpend).symm.trans hs
    rw [← Host.Outcome.next.inj this]
  exact hrun.drdy_is_read hnr hloop (by omega) hseq hd

/-- An event that is never read stays pending: it is never delivered. -/
theorem IsRun.unread_stays_pending (hp : (run m).pend = true)
    (hnone : ∀ k, m ≤ k → issuesRuntimeRead (schedule k) (run k) ≠ true) {k : Nat} (hk : m ≤ k) :
    (run k).pend = true := by
  induction k, hk using Nat.le_induction with
  | base => exact hp
  | succ k hk ih =>
    by_contra hfell
    obtain ⟨-, -, hd⟩ := (hrun.eventHandoff hnr k).delivered ih (by simpa using hfell)
    obtain ⟨j, hj, hread⟩ := hrun.drdy_is_read hnr hloop (by omega) hseq hd
    exact hnone j (by omega) hread

/-- A pending event is read, or every wake step, which is taken again and again, finds its delivery enabled. -/
theorem IsRun.read_or_wakes_outrun_delivery (h0 : BlockInv (run 0)) (hp : (run m).pend = true) :
    (∃ k, m ≤ k ∧ issuesRuntimeRead (schedule k) (run k) = true) ∨
      ∀ j, ∃ k, j ≤ k ∧ schedule k = .sequencer ∧ (run k).phase = .armed ∧ deliveryEnabled (run k) = true := by
  by_cases hread : ∃ k, m ≤ k ∧ issuesRuntimeRead (schedule k) (run k) = true
  · exact .inl hread
  · push Not at hread
    refine .inr fun j => ?_
    obtain ⟨k, hk, hturn, harmed⟩ := hrun.step_comes hnr hloop (hm.trans (Nat.le_max_left m j)) hseq .wake
    have hie : (run k).ie = true := (hrun.blockInv h0 k).ie_iff.2 harmed
    have hpend := hrun.unread_stays_pending hnr hloop hm hseq hp hread (by omega : m ≤ k)
    exact ⟨k, by omega, hturn, harmed, by rw [deliveryEnabled, hie, hpend]; rfl⟩

end

/-- Settles O59: the pulse leaves its event pending; it is read or every wake finds the delivery enabled, a delivery is
followed by a read, and strong fairness turns wakes that outrun delivery into a delivery. -/
theorem eventIsEventuallyReadUnlessWakesOutrunDelivery :
    Obligations.EventIsEventuallyReadUnlessWakesOutrunDelivery := by
  intro schedule run n hrun hnr hseq h0 hr hphase hevt
  have hloop : Looping (run n) := ⟨hphase, hr⟩
  have hpend : (run (n + 1)).pend = true := by
    have hs := hrun n
    rw [hevt, stepWith_released _ hr] at hs
    rw [← Host.Outcome.next.inj ((evtPulseSetsPendOnly (run n).turnTaken).symm.trans hs)]
  have outcome := hrun.read_or_wakes_outrun_delivery hnr hloop (Nat.le_succ n) hseq h0 hpend
  have deliveryIsRead {m : Nat} (hm : n < m) := hrun.delivery_is_read hnr hloop hm.le hseq
  refine ⟨outcome, fun m hm => deliveryIsRead hm, fun hstrong => ?_⟩
  obtain hread | hwakes := outcome
  · exact hread
  · obtain ⟨m, hm, hturn, hen⟩ := hstrong (fun j => by
      obtain ⟨k, hk, -, -, hen⟩ := hwakes j
      exact ⟨k, hk, hen⟩) (n + 1)
    obtain ⟨k, hk, hread⟩ := deliveryIsRead hm hturn hen
    exact ⟨k, by omega, hread⟩

-- A weakly fair run that never delivers (log 14)

/-- One EVT pulse, then the Sequencer alone. -/
def pulseThenSequencer : Nat → Turn
  | 0 => .evt
  | _ + 1 => .sequencer

theorem pulseThenSequencer_cases (n : Nat) : pulseThenSequencer n = .evt ∨ pulseThenSequencer n = .sequencer := by
  cases n with
  | zero => exact .inl rfl
  | succ n => exact .inr rfl

theorem pulseThenSequencer_ne {turn : Turn} (he : turn ≠ .evt) (hs : turn ≠ .sequencer) (n : Nat) :
    pulseThenSequencer n ≠ turn := by
  obtain h | h := pulseThenSequencer_cases n <;> rw [h]
  · exact he.symm
  · exact hs.symm

/-- Where no delivery is ever taken DRDY never rises. -/
theorem IsRun.drdy_stays_low {schedule : Nat → Turn} {run : Nat → State} (hrun : IsRun schedule run)
    (hnr : NeverResets schedule) (h0 : (run 0).drdy = false) (hnone : ∀ m, schedule m ≠ .deliver) (m : Nat) :
    (run m).drdy = false := by
  induction m with
  | zero => exact h0
  | succ m ih =>
    by_contra hrose
    exact hnone m ((hrun.eventHandoff hnr m).rises ih (by simpa using hrose)).1

/-- In the loop the delivery is never enabled for ever, since a fair Sequencer's check steps find IE clear. -/
theorem IsRun.delivery_not_always_enabled {schedule : Nat → Turn} {run : Nat → State} {n m : Nat}
    (hrun : IsRun schedule run) (hnr : NeverResets schedule) (hloop : Looping (run n)) (hm : n ≤ m)
    (hseq : SequencerWeaklyFair schedule run) (h0 : BlockInv (run 0)) :
    ∃ k, m ≤ k ∧ deliveryEnabled (run k) = false := by
  obtain ⟨k, hk, -, hp, -⟩ := hrun.step_comes hnr hloop hm hseq .check
  have hie : (run k).ie ≠ true := fun h => by simpa [hp] using (hrun.blockInv h0 k).ie_iff.1 h
  exact ⟨k, hk, by simp [deliveryEnabled, hie]⟩

theorem pulseThenSequencer_neverResets : NeverResets pulseThenSequencer :=
  fun n _ => pulseThenSequencer_ne (by simp) (by simp) n

/-- A schedule with no host access is never refused, so it has a run from every state. -/
theorem exists_run {schedule : Nat → Turn} (hread : ∀ n a w, schedule n ≠ .hostRead a w)
    (hwrite : ∀ n a w v, schedule n ≠ .hostWrite a w v) (s : State) : ∃ run, IsRun schedule run ∧ run 0 = s := by
  choose next hnext using fun n s => stepWith_completes (schedule n) s (hread n) (hwrite n)
  exact ⟨Nat.rec s next, fun n => hnext n _, rfl⟩

/-- The loop armed, with no event yet. -/
def armedNoEvent : State := { State.reset with phase := .armed, booted := true, ie := true }

theorem armedNoEvent_inv : BlockInv armedNoEvent :=
  { resetStateMeetsTheInvariant with
    booted_iff := ⟨fun _ => .inl rfl, fun _ => rfl⟩
    boot_busy := fun h => nomatch h
    loop_not_busy := fun _ => rfl
    ie_iff := ⟨fun _ => rfl, fun _ => rfl⟩
    bfstep_failed := fun h => absurd rfl h
    dcnt_boot := fun h => absurd rfl h
    bstep_rest := fun _ => rfl
    sstep_rest := fun _ => rfl
    waiting_legal := fun h => nomatch h
    rst_held := fun h => nomatch h }

/-- Settles O60: after one pulse the Sequencer alone goes round the loop, and weak fairness asks for no delivery, since
each check step finds IE clear. -/
theorem weakFairnessAloneAllowsAnUnreadEvent : Obligations.WeakFairnessAloneAllowsAnUnreadEvent := by
  obtain ⟨run, hrun, hstart⟩ : ∃ run, IsRun pulseThenSequencer run ∧ run 0 = armedNoEvent :=
    exists_run (fun n _ _ => pulseThenSequencer_ne (by simp) (by simp) n)
      (fun n _ _ _ => pulseThenSequencer_ne (by simp) (by simp) n) armedNoEvent
  have hnr := pulseThenSequencer_neverResets
  have hinv : BlockInv (run 0) := hstart ▸ armedNoEvent_inv
  have harmed : (run 0).phase = .armed := by rw [hstart]; rfl
  have hreleased : (run 0).rst = false := by rw [hstart]; rfl
  have hundelivered : (run 0).drdy = false := by rw [hstart]; rfl
  have hloop : Looping (run 0) := ⟨.inl harmed, hreleased⟩
  have hseq : SequencerWeaklyFair pulseThenSequencer run := fun n _ => ⟨n + 1, by omega, rfl⟩
  refine ⟨_, run, hrun, hnr, hseq, fun n hticks => ?_, fun n henabled => ?_, hinv, hreleased, harmed, rfl, fun m => ?_⟩
  · have hboot := ((hrun.blockInv hinv n).dcnt_boot (hticks n le_rfl).ne').1
    have hphase := (hrun.looping hnr hloop (Nat.zero_le n)).phase
    simp [hboot] at hphase
  · obtain ⟨k, hk, hdisabled⟩ := hrun.delivery_not_always_enabled hnr hloop (Nat.zero_le n) hseq hinv
    simp [henabled k hk] at hdisabled
  · have hd := hrun.drdy_stays_low hnr hundelivered (pulseThenSequencer_ne (by simp) (by simp)) m
    simp [issuesRuntimeRead, hd]

end Sys2Proof.Machine
end

section
/-! PROOF. The classifier: the level of a value, the word of a CLASSIFY command and what the command does (R311 to
R313). -/

namespace Sys2Proof

-- The word of CLASSIFY (R126)

/-- CLASSIFY's word is its operand above its opcode (R126). -/
theorem assemble_classify (imm : BitVec 16) : assemble imm .classify 0 0 = imm ++ 0x6000#16 := by
  rw [assemble, BitVec.append_assoc, BitVec.append_assoc, BitVec.append_assoc]
  rfl

theorem decode_eq_classify_iff (imm : BitVec 16) (w : Word) :
    decode w = .ok (.classify imm) ↔ w = imm ++ 0x6000#16 := by
  rw [← assemble_classify]
  refine ⟨fun h => ?_, fun h => ?_⟩
  · obtain ⟨-, -, hw⟩ := encodeOfDecodeIsTheWord w _ h
    exact (Option.some.inj hw).symm
  · rw [h]
    exact decode_assemble (reg := .status) (by decide) (fun hc => absurd rfl hc) (by decide)

/-- Below its opcode a CLASSIFY word is 0 (R127). -/
theorem LegalWord.classify_low {w : Word} (h : LegalWord .classify w) : w.extractLsb' 0 12 = 0 := by
  have hw : w = fieldImm w ++ 0x6000#16 := (decode_eq_classify_iff _ w).1 h.decode_eq
  rw [hw, BitVec.extractLsb'_append_eq_of_add_le (by decide)]
  rfl

end Sys2Proof

namespace Sys2Proof.Machine

-- The level of a value (R311)

/-- Each level with its range of values (R311). -/
theorem classify_cases (v : BitVec 16) :
    (classify v = .good ∧ v.toNat ≤ 900) ∨ (classify v = .warning ∧ 901 ≤ v.toNat ∧ v.toNat ≤ 1200) ∨
    (classify v = .alert ∧ 1201 ≤ v.toNat) := by
  unfold classify thAlert thWarn
  split_ifs with halert hwarn
  · exact .inr (.inr ⟨rfl, halert⟩)
  · exact .inr (.inl ⟨rfl, hwarn, Nat.not_lt.1 halert⟩)
  · exact .inl ⟨rfl, Nat.not_lt.1 hwarn⟩

/-- Settles O51: the ranges of the three levels exclude each other. -/
theorem classifyComparesWithTheThresholds : Obligations.ClassifyComparesWithTheThresholds := by
  intro v
  rcases classify_cases v with ⟨h, hv⟩ | ⟨h, hlo, hhi⟩ | ⟨h, hv⟩ <;>
    simp only [h, reduceCtorEq, ne_eq, true_iff, false_iff, not_false_eq_true, and_true] <;> omega

/-- Settles O52: the levels' ranges are in the order of their codes. -/
theorem classifyIsMonotonic : Obligations.ClassifyIsMonotonic := by
  intro u v huv
  rcases classify_cases u with ⟨hu, -⟩ | ⟨hu, hlo, -⟩ | ⟨hu, hlo⟩
  · rw [hu]
    exact Nat.zero_le _
  · rcases classify_cases v with ⟨-, hv⟩ | ⟨hv, -⟩ | ⟨hv, -⟩
    · omega
    · rw [hu, hv]
    · rw [hu, hv]
      decide
  · obtain ⟨-, -, alert_iff, -⟩ := classifyComparesWithTheThresholds v
    rw [hu, alert_iff.2 (hlo.trans huv)]

-- The command (R312)

/-- A word of a command's opcode that is not legal for it is ILLEGAL (R185). -/
theorem submitWord_of_not_legalWord {op : Op} {w : Word} (hop : fieldOp w = op.code) (h : ¬LegalWord op w) {s : State}
    (hb : s.busy = false) : submitWord w s = .next { s with err := .illegal } := by
  have illegal : IllegalFields w := not_not.1 (mt (legalWord_iff_of_code hop).2 h)
  rw [submitWord_of_illegal illegal, hb]
  rfl

/-- Settles O17: CLASSIFY always passes its checks, and a legal word of its opcode has no bit below it. -/
theorem classifyWritesCresAndErrOnly : Obligations.ClassifyWritesCresAndErrOnly := by
  intro s imm
  refine ⟨fun hb => ?_, fun hb => ?_, fun w => ⟨decode_eq_classify_iff imm w, fun hop hlow hb => ?_⟩⟩
  · exact exec_command_accepted (op := .classify) (imm := imm) (len := 0) (reg := .status) hb rfl
  · exact exec_command_busy (op := .classify) (imm := imm) (len := 0) (reg := .status) hb
  · exact submitWord_of_not_legalWord (op := .classify) hop (fun legal => hlow legal.classify_low) hb

end Sys2Proof.Machine
end

section
/-! PROOF. The host's accesses: what they leave alone and which of them are refused (R81 to R84, R186, R335, R339). -/

namespace Sys2Proof.Machine

/-- The turn is a host access of `width` bits at `addr`, a read or a write of any value (R55). -/
def HostAccess (turn : Turn) (addr width : Nat) : Prop :=
  turn = .hostRead addr width ∨ ∃ v, turn = .hostWrite addr width v

section
variable {turn : Turn} {s t : State} {addr width : Nat}

-- What a host access leaves alone (R335)

/-- The elements of the read loop are in `t` as they were in `s`, STATE apart. -/
structure LoopElementsKept (s t : State) : Prop where
  ie : t.ie = s.ie
  pend : t.pend = s.pend
  drdy : t.drdy = s.drdy
  value : t.value = s.value
  level : t.level = s.level
  hist : t.hist = s.hist
  sstep : t.sstep = s.sstep
  booted : t.booted = s.booted

/-- Each of the host's effects writes DATA, ERR, CRES, the latches, the boot's elements or its own read data. -/
theorem Effect.host_keeps_loopElements (he : Effect turn s t) (hhost : HostAccess turn addr width) :
    LoopElementsKept s t := by
  obtain rfl | ⟨v, rfl⟩ := hhost
  · cases he with
    | none | read => constructor <;> rfl
  · cases he with
    | none | data | err | classify | acceptBus | acceptBoot => constructor <;> rfl

/-- In the loop STATE moves by the Sequencer and RST alone, so no host access moves it (R186, R278). -/
theorem Effect.host_keeps_phase (he : Effect turn s t) (hhost : HostAccess turn addr width)
    (hp : s.phase = .armed ∨ s.phase = .service) : t.phase = s.phase := by
  have hrst : turn ≠ .rst true := by rintro rfl; simp [HostAccess] at hhost
  have hseq : turn ≠ .sequencer := by rintro rfl; simp [HostAccess] at hhost
  obtain ⟨hkept, -⟩ | ⟨hturn, -⟩ := he.in_loop hp hrst
  · exact hkept
  · exact absurd hturn hseq

-- Which host accesses are refused (R81, R82)

theorem hostTarget_eq_refused_iff (c : Config) (addr width : Nat) :
    hostTarget c addr width = .refused ↔
      c.hostBase ≤ addr ∧ addr < c.hostBase + 32 ∧ (width ≠ 32 ∨ (addr - c.hostBase) % 4 ≠ 0) := by
  unfold hostTarget
  split_ifs with hout hbad
  · simp only [false_iff]
    omega
  · simp only [hbad, true_iff, and_true]
    omega
  · simp only [hbad, and_false]

/-- Every word written to CMD completes, legal or not (R184, R185). -/
theorem submitWord_completes (w : Word) (s : State) : ∃ t, submitWord w s = .next t := by
  unfold submitWord
  split
  · exact exec_completes _ s
  · exact ⟨_, rfl⟩

theorem HostAccess.runTurn_refused (h : HostAccess turn addr width) (hbad : hostTarget s.cfg addr width = .refused) :
    runTurn turn s = .refused .hostAccess := by
  obtain rfl | ⟨v, rfl⟩ := h
  · simp only [runTurn, hostRead, hbad]
  · simp only [runTurn, hostWrite, hbad]

theorem HostAccess.runTurn_completes (h : HostAccess turn addr width) (hok : hostTarget s.cfg addr width ≠ .refused) :
    ∃ t, runTurn turn s = .next t := by
  obtain rfl | ⟨v, rfl⟩ := h
  · simp only [runTurn, hostRead]
    split
    · exact ⟨_, rfl⟩
    · contradiction
    · exact ⟨_, rfl⟩
  · simp only [runTurn, hostWrite]
    split
    · exact ⟨_, rfl⟩
    · contradiction
    · exact submitWord_completes v s
    · exact ⟨_, rfl⟩

-- The steps that are no host access, or held by RST (R339, R370)

/-- A step whose turn is no host access completes. -/
theorem step_completes_of_no_access (h : ∀ addr width, ¬HostAccess s.nextTurn addr width) : ∃ t, step s = .next t :=
  stepWith_completes s.nextTurn { s with agenda := s.agenda.tail } (fun a w hr => h a w (.inl hr))
    fun a w v hw => h a w (.inr ⟨v, hw⟩)

/-- A host access while RST is asserted completes, whatever it is (R370). -/
theorem step_completes_of_held (h : HostAccess s.nextTurn addr width) (hr : s.rst = true) : ∃ t, step s = .next t := by
  refine ⟨s.beginTurn, takeTurn_held hr fun level hl => ?_⟩
  simp [HostAccess, hl] at h

end

/-- Settles O49: no effect of the host's turns writes the loop's elements, or moves STATE in the loop. -/
theorem hostCannotTouchTheReadLoop : Obligations.HostCannotTouchTheReadLoop := by
  intro s t addr width v h
  obtain ⟨turn, hhost, he⟩ : ∃ turn, HostAccess turn addr width ∧ Effect turn s t :=
    h.elim (fun hr => ⟨_, .inl rfl, runTurn_effect hr⟩) fun hw => ⟨_, .inr ⟨v, rfl⟩, runTurn_effect hw⟩
  obtain ⟨ie, pend, drdy, value, level, hist, sstep, booted⟩ := he.host_keeps_loopElements hhost
  exact ⟨ie, pend, drdy, value, level, hist, sstep, booted, he.host_keeps_phase hhost⟩

/-- Settles O57: only a host access with RST released can fail to complete, and then its target is a refused one. -/
theorem onlyBadHostAccessesAreRefused : Obligations.OnlyBadHostAccessesAreRefused := by
  intro s
  by_cases hhost : ∃ addr width, HostAccess s.nextTurn addr width
  · obtain ⟨addr, width, hhost⟩ := hhost
    cases hr : s.rst with
    | true => exact .inl (step_completes_of_held hhost hr)
    | false =>
      rw [step_released hr rfl]
      by_cases hbad : hostTarget s.beginTurn.cfg addr width = .refused
      · exact .inr ⟨hhost.runTurn_refused hbad, rfl, addr, width, hhost, (hostTarget_eq_refused_iff ..).1 hbad⟩
      · exact .inl (hhost.runTurn_completes hbad)
  · exact .inl (step_completes_of_no_access fun addr width h => hhost ⟨addr, width, h⟩)

end Sys2Proof.Machine
end

section
/-! PROOF. RST and what it leaves, commands while BUSY, and who uses the bus. -/

namespace Sys2Proof.Machine

-- RST (R370, R371)

/-- A step whose turn is RST's own runs it, whatever the level RST had. -/
theorem step_rst {level : Bool} {s : State} (ht : s.nextTurn = .rst level) :
    step s = runTurn (.rst level) s.beginTurn := by
  rw [step, ht, takeTurn_run (.inr ⟨level, rfl⟩)]

/-- Settles O8: a held turn of another agent is not run, and RST's own turns run whatever the level was. -/
theorem resetTakesPrecedence : Obligations.ResetTakesPrecedence := fun _ =>
  ⟨takeTurn_held (s := State.beginTurn _), step_rst, step_rst, rfl, rfl, rfl, rfl, rfl, rfl⟩

/-- The host reads a block that was reset as it reads the state after reset: no register shows what RESET keeps. -/
theorem hostRegValue_resetElements (s : State) (r : HostReg) :
    hostRegValue s.resetElements r = hostRegValue State.reset r := by
  cases r <;> rfl

/-- The host-visible values after reset. -/
theorem hostRegValue_reset (r : HostReg) :
    hostRegValue State.reset r = match r with
      | .result => 0x00030000#32
      | .class_ => 0x00000003#32
      | .cmd | .status | .data0 | .data1 | .diag | .reserved => 0 := by
  cases r <;> decide

/-- Settles O9: RESET leaves the elements of the state after reset, and the host reads them as it reads that state. -/
theorem resetGivesTheResetValues : Obligations.ResetGivesTheResetValues := by
  intro s
  have reads (r : HostReg) := (hostRegValue_resetElements s r).trans (hostRegValue_reset r)
  refine ⟨s.resetElements, rfl, ?_⟩
  simp [reads, State.reset]

-- Commands while BUSY (R390)

/-- A command is its opcode's, with some operands. -/
theorem exists_command {i : Instr} (h : i.isCommand = true) :
    ∃ (op : Op) (imm : BitVec 16) (len : Nat) (reg : SensorReg), i = op.command imm len reg := by
  cases i with
  | nop => exact ⟨.nop, 0, 0, .status, rfl⟩
  | boot => exact ⟨.boot, 0, 0, .status, rfl⟩
  | classify imm => exact ⟨.classify, imm, 0, .status, rfl⟩
  | wrcmd reg len => exact ⟨.wrcmd, 0, len, reg, rfl⟩
  | wrreg reg len => exact ⟨.wrreg, 0, len, reg, rfl⟩
  | wrmbox reg len => exact ⟨.wrmbox, 0, len, reg, rfl⟩
  | rdmbox reg len => exact ⟨.rdmbox, 0, len, reg, rfl⟩
  | _ => cases h -- the internal steps are no commands (R128)

/-- Settles O15: every command goes through the one submission, which looks at BUSY first; so does an ILLEGAL word. -/
theorem commandsAreIgnoredWhileBusy : Obligations.CommandsAreIgnoredWhileBusy := by
  refine fun s hb => ⟨fun i hi => ?_, submitWord_busy hb⟩
  obtain ⟨op, imm, len, reg, rfl⟩ := exists_command hi
  exact exec_command_busy hb

-- The transactions of a step (R30, R395)

/-- A transaction is recorded as one transaction. -/
theorem txShapes_afterTx (s : State) (k : TxKind) (w : List Byte) (m : Nat) :
    ∃ x, txShapes (s.afterTx k w m).hist = txShapes s.hist ++ [x] := by
  rw [State.afterTx_hist, txShapes_append, txShapes_txEvent]
  exact ⟨_, rfl⟩

/-- An emission is no transaction. -/
theorem txShapes_emit (h : List Event) (l : Level) : txShapes (h ++ [.setLevel l]) = txShapes h := by
  rw [txShapes_append]
  exact List.append_nil _

/-- Every effect but RST's adds no transaction, or is the Sequencer's and adds one. -/
theorem Effect.adds_at_most_one_tx {turn : Turn} {s t : State} (he : Effect turn s t) (ht : turn ≠ .rst true) :
    txShapes t.hist = txShapes s.hist ∨
      (turn = .sequencer ∧ ∃ x, txShapes t.hist = txShapes s.hist ++ [x]) := by
  cases he with
  | command => exact .inr ⟨rfl, txShapes_afterTx s _ _ _⟩
  | bootNext => exact .inr ⟨rfl, txShapes_afterTx s _ _ _⟩
  | bootDone => exact .inr ⟨rfl, txShapes_afterTx s _ _ _⟩
  | bootFail => exact .inr ⟨rfl, txShapes_afterTx s _ _ _⟩
  | checkOk =>
    obtain ⟨x, hx⟩ := txShapes_afterTx s .wr [regAddr s.cfg .algResultData] 2
    exact .inr ⟨rfl, x, (txShapes_emit _ _).trans hx⟩
  | checkFail => exact .inr ⟨rfl, txShapes_afterTx s _ _ _⟩
  | assertRst => exact absurd rfl ht
  | _ => exact .inl rfl

/-- Settles O46: a held step adds nothing, and the effects that add a transaction are the Sequencer's and add one. -/
theorem onlyTheSequencerUsesTheBus : Obligations.OnlyTheSequencerUsesTheBus := by
  intro s t ht hs
  obtain ⟨-, rfl⟩ | ⟨-, he⟩ := step_effect hs
  · exact ⟨fun _ => rfl, .inl rfl⟩
  · obtain hnone | ⟨hseq, hone⟩ := he.adds_at_most_one_tx ht
    · exact ⟨fun _ => hnone, .inl hnone⟩
    · exact ⟨fun hne => absurd hseq hne, .inr hone⟩

end Sys2Proof.Machine
end
